-- ==== Sys2Proof/Word.lean ====
section
/-! DEFINITION. The word types of the decoder front-end (spec/00_scope.md R7). -/

namespace Sys2Proof

/-- A buffer byte, an opcode or an operand byte: `BYTE_W` = 8 bits (R7). -/
abbrev Byte := BitVec 8

/-- The cursor, a buffer length or a record's offset: `CURSOR_W` = 17 bits (R7, 10_state.md R21). -/
abbrev Offset := BitVec 17

/-- A word of the decoder ROM: `ROM_W` = 12 bits (R7, 30_encoding.md R77). -/
abbrev RomWord := BitVec 12

end Sys2Proof
end

