-- ==== Sys2Proof/Config.lean ====
section
/-! DEFINITION. What the implementation fixes: the names a ROM word can hold (mnemonic, addressing mode, length), the
parameters of spec/00_scope.md R7, and the two parameters the spec leaves open (opaque constants). -/

namespace Sys2Proof

/-- The 57 mnemonics in the order of their codes (30_encoding.md R74): the 56 documented ones, then `UNK`. -/
inductive Mnemonic where
  | adc | and | asl | bcc | bcs | beq | bit | bmi | bne | bpl | brk | bvc | bvs | clc | cld | cli | clv | cmp
  | cpx | cpy | dec | dex | dey | eor | inc | inx | iny | jmp | jsr | lda | ldx | ldy | lsr | nop | ora | pha
  | php | pla | plp | rol | ror | rti | rts | sbc | sec | sed | sei | sta | stx | sty | tax | tay | tsx | txa
  | txs | tya | unk
  deriving DecidableEq, Repr

/-- The 14 addressing modes in the order of their codes (30_encoding.md R75): the document's closed set, then `indirect`
(90_conflicts.md C1). -/
inductive Mode where
  | implied | accumulator | immediate | zeroPage | zeroPageX | zeroPageY | indexedIndirect | indirectIndexed
  | absolute | absoluteX | absoluteY | relative | unknown | indirect
  deriving DecidableEq, Repr

/-- The length of an instruction in bytes, 1, 2 or 3 (30_encoding.md R76); the value 0 is never stored, so it has no name. -/
inductive Len where
  | one | two | three
  deriving DecidableEq, Repr

/-- The descriptor a ROM word holds: mnemonic, addressing mode, length (30_encoding.md R77, 00_scope.md R11). -/
structure Descriptor where
  mnem : Mnemonic
  mode : Mode
  len  : Len
  deriving DecidableEq, Repr

/-- `N_MAX`, the largest buffer the walker accepts (R7, 92_eei_decisions.md D3). DESIGN CHOICE (log entry 11): the spec's
default 65536; safe, a longer buffer is refused. -/
def nMax : Nat := 65536

/-- `OFFSET_HEX_DIGITS`, the least number of hex digits of a rendered offset (R7, 40_decoder_walker.md R113). DESIGN CHOICE
(log entry 11): the spec's value under the default `N_MAX`; safe. -/
def offsetHexDigits : Nat := 4

/-- `MODE_TAG_TEXT`, the text of an addressing-mode tag (40_decoder_walker.md R114, 92_eei_decisions.md D12). The spec gives
no spelling: a free value with no body (log entry 10); safe. -/
opaque Config.modeTagText : Mode → String

/-- `TRUNC_MARK_TEXT`, how a truncated record is rendered (40_decoder_walker.md R114, 92_eei_decisions.md D13), a function of the
record's offset, its descriptor and the operand bytes it holds. The spec gives no text: a free value with no body (log entry 10);
safe. -/
opaque Config.truncMarkText : Offset → Descriptor → List Byte → String

end Sys2Proof
end

