-- ==== Sys2Proof/Syntax.lean ====
section
/-! DEFINITION. The instructions the decoder front-end tells apart (spec/opcode_table.json, 256 rows).

An instruction is what the opcode byte alone selects (30_encoding.md R70, R82): the 151 documented opcode bytes have a constructor
each, named by mnemonic and mode abbreviation (R75). The 105 rows `UNK` are one rule, one descriptor and one ROM word
(47_undefined.md R351): they are the one constructor `unk`, which holds the opcode byte.

No constructor holds an operand byte. The hardware decodes none: the walker passes operand bytes from the buffer to the record's
lanes, raw (30_encoding.md R73, 40_decoder_walker.md R101), and how many there are depends on the buffer's end (R100). DESIGN
CHOICE (log entry 8); safe. -/

namespace Sys2Proof

/-- One constructor per documented opcode byte, and `unk` for the undefined ones. -/
inductive Instr where
  -- 41_load_store.md
  | ldaImm   -- 0xA9 LDA immediate, R200
  | ldaZp    -- 0xA5 LDA zero-page, R201
  | ldaZpx   -- 0xB5 LDA zero-page-X, R202
  | ldaAbs   -- 0xAD LDA absolute, R203
  | ldaAbx   -- 0xBD LDA absolute-X, R204
  | ldaAby   -- 0xB9 LDA absolute-Y, R205
  | ldaIzx   -- 0xA1 LDA indexed-indirect, R206
  | ldaIzy   -- 0xB1 LDA indirect-indexed, R207
  | ldxImm   -- 0xA2 LDX immediate, R208
  | ldxZp    -- 0xA6 LDX zero-page, R209
  | ldxZpy   -- 0xB6 LDX zero-page-Y, R210
  | ldxAbs   -- 0xAE LDX absolute, R211
  | ldxAby   -- 0xBE LDX absolute-Y, R212
  | ldyImm   -- 0xA0 LDY immediate, R213
  | ldyZp    -- 0xA4 LDY zero-page, R214
  | ldyZpx   -- 0xB4 LDY zero-page-X, R215
  | ldyAbs   -- 0xAC LDY absolute, R216
  | ldyAbx   -- 0xBC LDY absolute-X, R217
  | staZp    -- 0x85 STA zero-page, R218
  | staZpx   -- 0x95 STA zero-page-X, R219
  | staAbs   -- 0x8D STA absolute, R220
  | staAbx   -- 0x9D STA absolute-X, R221
  | staAby   -- 0x99 STA absolute-Y, R222
  | staIzx   -- 0x81 STA indexed-indirect, R223
  | staIzy   -- 0x91 STA indirect-indexed, R224
  | stxZp    -- 0x86 STX zero-page, R225
  | stxZpy   -- 0x96 STX zero-page-Y, R226
  | stxAbs   -- 0x8E STX absolute, R227
  | styZp    -- 0x84 STY zero-page, R228
  | styZpx   -- 0x94 STY zero-page-X, R229
  | styAbs   -- 0x8C STY absolute, R230
  -- 42_transfer_stack.md
  | taxImp   -- 0xAA TAX implied, R231
  | tayImp   -- 0xA8 TAY implied, R232
  | tsxImp   -- 0xBA TSX implied, R233
  | txaImp   -- 0x8A TXA implied, R234
  | txsImp   -- 0x9A TXS implied, R235
  | tyaImp   -- 0x98 TYA implied, R236
  | phaImp   -- 0x48 PHA implied, R237
  | phpImp   -- 0x08 PHP implied, R238
  | plaImp   -- 0x68 PLA implied, R239
  | plpImp   -- 0x28 PLP implied, R240
  -- 43_logic_arith_compare.md
  | andImm   -- 0x29 AND immediate, R241
  | andZp    -- 0x25 AND zero-page, R242
  | andZpx   -- 0x35 AND zero-page-X, R243
  | andAbs   -- 0x2D AND absolute, R244
  | andAbx   -- 0x3D AND absolute-X, R245
  | andAby   -- 0x39 AND absolute-Y, R246
  | andIzx   -- 0x21 AND indexed-indirect, R247
  | andIzy   -- 0x31 AND indirect-indexed, R248
  | eorImm   -- 0x49 EOR immediate, R249
  | eorZp    -- 0x45 EOR zero-page, R250
  | eorZpx   -- 0x55 EOR zero-page-X, R251
  | eorAbs   -- 0x4D EOR absolute, R252
  | eorAbx   -- 0x5D EOR absolute-X, R253
  | eorAby   -- 0x59 EOR absolute-Y, R254
  | eorIzx   -- 0x41 EOR indexed-indirect, R255
  | eorIzy   -- 0x51 EOR indirect-indexed, R256
  | oraImm   -- 0x09 ORA immediate, R257
  | oraZp    -- 0x05 ORA zero-page, R258
  | oraZpx   -- 0x15 ORA zero-page-X, R259
  | oraAbs   -- 0x0D ORA absolute, R260
  | oraAbx   -- 0x1D ORA absolute-X, R261
  | oraAby   -- 0x19 ORA absolute-Y, R262
  | oraIzx   -- 0x01 ORA indexed-indirect, R263
  | oraIzy   -- 0x11 ORA indirect-indexed, R264
  | bitZp    -- 0x24 BIT zero-page, R265
  | bitAbs   -- 0x2C BIT absolute, R266
  | adcImm   -- 0x69 ADC immediate, R267
  | adcZp    -- 0x65 ADC zero-page, R268
  | adcZpx   -- 0x75 ADC zero-page-X, R269
  | adcAbs   -- 0x6D ADC absolute, R270
  | adcAbx   -- 0x7D ADC absolute-X, R271
  | adcAby   -- 0x79 ADC absolute-Y, R272
  | adcIzx   -- 0x61 ADC indexed-indirect, R273
  | adcIzy   -- 0x71 ADC indirect-indexed, R274
  | sbcImm   -- 0xE9 SBC immediate, R275
  | sbcZp    -- 0xE5 SBC zero-page, R276
  | sbcZpx   -- 0xF5 SBC zero-page-X, R277
  | sbcAbs   -- 0xED SBC absolute, R278
  | sbcAbx   -- 0xFD SBC absolute-X, R279
  | sbcAby   -- 0xF9 SBC absolute-Y, R280
  | sbcIzx   -- 0xE1 SBC indexed-indirect, R281
  | sbcIzy   -- 0xF1 SBC indirect-indexed, R282
  | cmpImm   -- 0xC9 CMP immediate, R283
  | cmpZp    -- 0xC5 CMP zero-page, R284
  | cmpZpx   -- 0xD5 CMP zero-page-X, R285
  | cmpAbs   -- 0xCD CMP absolute, R286
  | cmpAbx   -- 0xDD CMP absolute-X, R287
  | cmpAby   -- 0xD9 CMP absolute-Y, R288
  | cmpIzx   -- 0xC1 CMP indexed-indirect, R289
  | cmpIzy   -- 0xD1 CMP indirect-indexed, R290
  | cpxImm   -- 0xE0 CPX immediate, R291
  | cpxZp    -- 0xE4 CPX zero-page, R292
  | cpxAbs   -- 0xEC CPX absolute, R293
  | cpyImm   -- 0xC0 CPY immediate, R294
  | cpyZp    -- 0xC4 CPY zero-page, R295
  | cpyAbs   -- 0xCC CPY absolute, R296
  -- 44_incdec_shift.md
  | incZp    -- 0xE6 INC zero-page, R297
  | incZpx   -- 0xF6 INC zero-page-X, R298
  | incAbs   -- 0xEE INC absolute, R299
  | incAbx   -- 0xFE INC absolute-X, R300
  | inxImp   -- 0xE8 INX implied, R301
  | inyImp   -- 0xC8 INY implied, R302
  | decZp    -- 0xC6 DEC zero-page, R303
  | decZpx   -- 0xD6 DEC zero-page-X, R304
  | decAbs   -- 0xCE DEC absolute, R305
  | decAbx   -- 0xDE DEC absolute-X, R306
  | dexImp   -- 0xCA DEX implied, R307
  | deyImp   -- 0x88 DEY implied, R308
  | aslZp    -- 0x06 ASL zero-page, R309
  | aslZpx   -- 0x16 ASL zero-page-X, R310
  | aslAbs   -- 0x0E ASL absolute, R311
  | aslAbx   -- 0x1E ASL absolute-X, R312
  | aslAcc   -- 0x0A ASL accumulator, R313
  | lsrZp    -- 0x46 LSR zero-page, R314
  | lsrZpx   -- 0x56 LSR zero-page-X, R315
  | lsrAbs   -- 0x4E LSR absolute, R316
  | lsrAbx   -- 0x5E LSR absolute-X, R317
  | lsrAcc   -- 0x4A LSR accumulator, R318
  | rolZp    -- 0x26 ROL zero-page, R319
  | rolZpx   -- 0x36 ROL zero-page-X, R320
  | rolAbs   -- 0x2E ROL absolute, R321
  | rolAbx   -- 0x3E ROL absolute-X, R322
  | rolAcc   -- 0x2A ROL accumulator, R323
  | rorZp    -- 0x66 ROR zero-page, R324
  | rorZpx   -- 0x76 ROR zero-page-X, R325
  | rorAbs   -- 0x6E ROR absolute, R326
  | rorAbx   -- 0x7E ROR absolute-X, R327
  | rorAcc   -- 0x6A ROR accumulator, R328
  -- 45_control.md
  | jmpAbs   -- 0x4C JMP absolute, R329
  | jmpInd   -- 0x6C JMP indirect, R330
  | jsrAbs   -- 0x20 JSR absolute, R331
  | rtsImp   -- 0x60 RTS implied, R332
  | brkImp   -- 0x00 BRK implied, R333
  | rtiImp   -- 0x40 RTI implied, R334
  | bccRel   -- 0x90 BCC relative, R335
  | bcsRel   -- 0xB0 BCS relative, R336
  | beqRel   -- 0xF0 BEQ relative, R337
  | bmiRel   -- 0x30 BMI relative, R338
  | bneRel   -- 0xD0 BNE relative, R339
  | bplRel   -- 0x10 BPL relative, R340
  | bvcRel   -- 0x50 BVC relative, R341
  | bvsRel   -- 0x70 BVS relative, R342
  -- 46_flags_nop.md
  | clcImp   -- 0x18 CLC implied, R343
  | cldImp   -- 0xD8 CLD implied, R344
  | cliImp   -- 0x58 CLI implied, R345
  | clvImp   -- 0xB8 CLV implied, R346
  | secImp   -- 0x38 SEC implied, R347
  | sedImp   -- 0xF8 SED implied, R348
  | seiImp   -- 0x78 SEI implied, R349
  | nopImp   -- 0xEA NOP implied, R350
  -- 47_undefined.md
  | unk (op : Byte) -- any byte of the undefined set, UNK unknown, R351
  deriving DecidableEq, Repr

end Sys2Proof
end

