-- ==== Sys2Proof/WellFormed.lean ====
section
/-! DEFINITION. Which terms of `Instr` stand for an opcode byte: `unk` holds only a byte of the undefined set
(spec/47_undefined.md R351). -/

namespace Sys2Proof

/-- The undefined set U, as 47_undefined.md R351 lists its 105 byte values. -/
def undefinedOpcodes : List Byte :=
  [0x02, 0x03, 0x04, 0x07, 0x0B, 0x0C, 0x0F, 0x12, 0x13, 0x14, 0x17, 0x1A, 0x1B, 0x1C, 0x1F] ++
  [0x22, 0x23, 0x27, 0x2B, 0x2F, 0x32, 0x33, 0x34, 0x37, 0x3A, 0x3B, 0x3C, 0x3F, 0x42, 0x43] ++
  [0x44, 0x47, 0x4B, 0x4F, 0x52, 0x53, 0x54, 0x57, 0x5A, 0x5B, 0x5C, 0x5F, 0x62, 0x63, 0x64] ++
  [0x67, 0x6B, 0x6F, 0x72, 0x73, 0x74, 0x77, 0x7A, 0x7B, 0x7C, 0x7F, 0x80, 0x82, 0x83, 0x87] ++
  [0x89, 0x8B, 0x8F, 0x92, 0x93, 0x97, 0x9B, 0x9C, 0x9E, 0x9F, 0xA3, 0xA7, 0xAB, 0xAF, 0xB2] ++
  [0xB3, 0xB7, 0xBB, 0xBF, 0xC2, 0xC3, 0xC7, 0xCB, 0xCF, 0xD2, 0xD3, 0xD4, 0xD7, 0xDA, 0xDB] ++
  [0xDC, 0xDF, 0xE2, 0xE3, 0xE7, 0xEB, 0xEF, 0xF2, 0xF3, 0xF4, 0xF7, 0xFA, 0xFB, 0xFC, 0xFF]

/-- The check on an instruction: an `unk` holds a byte of the undefined set (R351); a documented opcode has no operand to
check. -/
def Instr.wellFormed : Instr → Bool
  | .unk op => undefinedOpcodes.contains op
  | .ldaImm | .ldaZp | .ldaZpx | .ldaAbs | .ldaAbx | .ldaAby | .ldaIzx | .ldaIzy | .ldxImm | .ldxZp | .ldxZpy
  | .ldxAbs | .ldxAby | .ldyImm | .ldyZp | .ldyZpx | .ldyAbs | .ldyAbx | .staZp | .staZpx | .staAbs | .staAbx
  | .staAby | .staIzx | .staIzy | .stxZp | .stxZpy | .stxAbs | .styZp | .styZpx | .styAbs | .taxImp | .tayImp
  | .tsxImp | .txaImp | .txsImp | .tyaImp | .phaImp | .phpImp | .plaImp | .plpImp | .andImm | .andZp
  | .andZpx | .andAbs | .andAbx | .andAby | .andIzx | .andIzy | .eorImm | .eorZp | .eorZpx | .eorAbs
  | .eorAbx | .eorAby | .eorIzx | .eorIzy | .oraImm | .oraZp | .oraZpx | .oraAbs | .oraAbx | .oraAby
  | .oraIzx | .oraIzy | .bitZp | .bitAbs | .adcImm | .adcZp | .adcZpx | .adcAbs | .adcAbx | .adcAby | .adcIzx
  | .adcIzy | .sbcImm | .sbcZp | .sbcZpx | .sbcAbs | .sbcAbx | .sbcAby | .sbcIzx | .sbcIzy | .cmpImm | .cmpZp
  | .cmpZpx | .cmpAbs | .cmpAbx | .cmpAby | .cmpIzx | .cmpIzy | .cpxImm | .cpxZp | .cpxAbs | .cpyImm | .cpyZp
  | .cpyAbs | .incZp | .incZpx | .incAbs | .incAbx | .inxImp | .inyImp | .decZp | .decZpx | .decAbs | .decAbx
  | .dexImp | .deyImp | .aslZp | .aslZpx | .aslAbs | .aslAbx | .aslAcc | .lsrZp | .lsrZpx | .lsrAbs | .lsrAbx
  | .lsrAcc | .rolZp | .rolZpx | .rolAbs | .rolAbx | .rolAcc | .rorZp | .rorZpx | .rorAbs | .rorAbx | .rorAcc
  | .jmpAbs | .jmpInd | .jsrAbs | .rtsImp | .brkImp | .rtiImp | .bccRel | .bcsRel | .beqRel | .bmiRel
  | .bneRel | .bplRel | .bvcRel | .bvsRel | .clcImp | .cldImp | .cliImp | .clvImp | .secImp | .sedImp
  | .seiImp | .nopImp => true

end Sys2Proof
end

