-- ==== Sys2Proof/Decode.lean ====
section
/-! DEFINITION. The decoder ROM and the decoder over it (spec/30_encoding.md): the codes of a ROM word's fields, the map of
rule R78, the words of rule R79, the instruction an opcode byte selects, and the encoder beside it. -/

namespace Sys2Proof

/-- The length itself, 1, 2 or 3 (R76). -/
def Len.toNat : Len → Nat
  | .one => 1
  | .two => 2
  | .three => 3

/-- `LEN_OF_MODE`, the length of an addressing mode's instructions (R72). -/
def lenOfMode : Mode → Len
  | .implied | .accumulator | .unknown => .one
  | .immediate | .zeroPage | .zeroPageX | .zeroPageY | .indexedIndirect | .indirectIndexed | .relative => .two
  | .absolute | .absoluteX | .absoluteY | .indirect => .three

/-- The 6-bit code of a mnemonic (R74). -/
def Mnemonic.code : Mnemonic → BitVec 6
  | .adc => 0 | .and => 1 | .asl => 2 | .bcc => 3 | .bcs => 4 | .beq => 5 | .bit => 6 | .bmi => 7 | .bne => 8
  | .bpl => 9 | .brk => 10 | .bvc => 11 | .bvs => 12 | .clc => 13 | .cld => 14 | .cli => 15 | .clv => 16
  | .cmp => 17 | .cpx => 18 | .cpy => 19 | .dec => 20 | .dex => 21 | .dey => 22 | .eor => 23 | .inc => 24
  | .inx => 25 | .iny => 26 | .jmp => 27 | .jsr => 28 | .lda => 29 | .ldx => 30 | .ldy => 31 | .lsr => 32
  | .nop => 33 | .ora => 34 | .pha => 35 | .php => 36 | .pla => 37 | .plp => 38 | .rol => 39 | .ror => 40
  | .rti => 41 | .rts => 42 | .sbc => 43 | .sec => 44 | .sed => 45 | .sei => 46 | .sta => 47 | .stx => 48
  | .sty => 49 | .tax => 50 | .tay => 51 | .tsx => 52 | .txa => 53 | .txs => 54 | .tya => 55 | .unk => 56

/-- The mnemonic of a 6-bit code; codes 57 to 63 are never stored and name none (R74, R83). -/
def Mnemonic.ofCode (c : BitVec 6) : Option Mnemonic :=
  ([
    .adc, .and, .asl, .bcc, .bcs, .beq, .bit, .bmi, .bne, .bpl, .brk, .bvc, .bvs, .clc, .cld, .cli, .clv,
    .cmp, .cpx, .cpy, .dec, .dex, .dey, .eor, .inc, .inx, .iny, .jmp, .jsr, .lda, .ldx, .ldy, .lsr, .nop,
    .ora, .pha, .php, .pla, .plp, .rol, .ror, .rti, .rts, .sbc, .sec, .sed, .sei, .sta, .stx, .sty, .tax,
    .tay, .tsx, .txa, .txs, .tya, .unk
  ] : List Mnemonic)[c.toNat]?

/-- A mnemonic as it is spelled, three upper-case letters (R74, R84). -/
def Mnemonic.text : Mnemonic → String
  | .adc => "ADC" | .and => "AND" | .asl => "ASL" | .bcc => "BCC" | .bcs => "BCS" | .beq => "BEQ"
  | .bit => "BIT" | .bmi => "BMI" | .bne => "BNE" | .bpl => "BPL" | .brk => "BRK" | .bvc => "BVC"
  | .bvs => "BVS" | .clc => "CLC" | .cld => "CLD" | .cli => "CLI" | .clv => "CLV" | .cmp => "CMP"
  | .cpx => "CPX" | .cpy => "CPY" | .dec => "DEC" | .dex => "DEX" | .dey => "DEY" | .eor => "EOR"
  | .inc => "INC" | .inx => "INX" | .iny => "INY" | .jmp => "JMP" | .jsr => "JSR" | .lda => "LDA"
  | .ldx => "LDX" | .ldy => "LDY" | .lsr => "LSR" | .nop => "NOP" | .ora => "ORA" | .pha => "PHA"
  | .php => "PHP" | .pla => "PLA" | .plp => "PLP" | .rol => "ROL" | .ror => "ROR" | .rti => "RTI"
  | .rts => "RTS" | .sbc => "SBC" | .sec => "SEC" | .sed => "SED" | .sei => "SEI" | .sta => "STA"
  | .stx => "STX" | .sty => "STY" | .tax => "TAX" | .tay => "TAY" | .tsx => "TSX" | .txa => "TXA"
  | .txs => "TXS" | .tya => "TYA" | .unk => "UNK"

/-- The 4-bit code of an addressing mode (R75). -/
def Mode.code : Mode → BitVec 4
  | .implied => 0 | .accumulator => 1 | .immediate => 2 | .zeroPage => 3 | .zeroPageX => 4 | .zeroPageY => 5
  | .indexedIndirect => 6 | .indirectIndexed => 7 | .absolute => 8 | .absoluteX => 9 | .absoluteY => 10
  | .relative => 11 | .unknown => 12 | .indirect => 13

/-- The addressing mode of a 4-bit code; codes 14 and 15 are never stored and name none (R75, R83). -/
def Mode.ofCode (c : BitVec 4) : Option Mode :=
  ([
    .implied, .accumulator, .immediate, .zeroPage, .zeroPageX, .zeroPageY, .indexedIndirect,
    .indirectIndexed, .absolute, .absoluteX, .absoluteY, .relative, .unknown, .indirect
  ] : List Mode)[c.toNat]?

/-- The 2-bit length field (R76). -/
def Len.code : Len → BitVec 2
  | .one => 1
  | .two => 2
  | .three => 3

/-- The length of a 2-bit field; the value 0 is never stored and names none (R76, R83). -/
def Len.ofCode (c : BitVec 2) : Option Len :=
  match c.toNat with
  | 1 => some .one
  | 2 => some .two
  | 3 => some .three
  | _ => none

/-- The layout of a ROM word: mnemonic code in bits 11 to 6, mode code in bits 5 to 2, length in bits 1 to 0 (R77). -/
def Descriptor.toWord (d : Descriptor) : RomWord :=
  d.mnem.code ++ d.mode.code ++ d.len.code

/-- The descriptor a ROM word holds, field by field (R77); none where a field's value is never stored (R83). -/
def Descriptor.ofWord (w : RomWord) : Option Descriptor :=
  match Mnemonic.ofCode (w.extractLsb' 6 6), Mode.ofCode (w.extractLsb' 2 4), Len.ofCode (w.extractLsb' 0 2) with
  | some m, some a, some l => some ⟨m, a, l⟩
  | _, _, _ => none

/-- The unknown descriptor UNK/unknown/1 (R80). -/
def unknownDescriptor : Descriptor := ⟨.unk, .unknown, .one⟩

/-- A documented cell of the map: its length follows from its mode (R72, R78). -/
def romCell (a : Mode) (m : Mnemonic) : Descriptor := ⟨m, a, lenOfMode a⟩

/-- The decoder ROM, the map of rule R78: row by high nibble, column by low nibble, with R75's mode abbreviations. -/
def romTable : Vector (Vector Descriptor 16) 16 :=
  let imp := romCell .implied
  let acc := romCell .accumulator
  let imm := romCell .immediate
  let zp := romCell .zeroPage
  let zpx := romCell .zeroPageX
  let zpy := romCell .zeroPageY
  let izx := romCell .indexedIndirect
  let izy := romCell .indirectIndexed
  let abs := romCell .absolute
  let abx := romCell .absoluteX
  let aby := romCell .absoluteY
  let rel := romCell .relative
  let ind := romCell .indirect
  let unk := unknownDescriptor
  #v[
  #v[imp .brk, izx .ora, unk, unk, unk, zp .ora, zp .asl, unk, imp .php, imm .ora, acc .asl, unk, unk, abs .ora, abs .asl, unk],
  #v[rel .bpl, izy .ora, unk, unk, unk, zpx .ora, zpx .asl, unk, imp .clc, aby .ora, unk, unk, unk, abx .ora, abx .asl, unk],
  #v[abs .jsr, izx .and, unk, unk, zp .bit, zp .and, zp .rol, unk, imp .plp, imm .and, acc .rol, unk, abs .bit, abs .and, abs .rol, unk],
  #v[rel .bmi, izy .and, unk, unk, unk, zpx .and, zpx .rol, unk, imp .sec, aby .and, unk, unk, unk, abx .and, abx .rol, unk],
  #v[imp .rti, izx .eor, unk, unk, unk, zp .eor, zp .lsr, unk, imp .pha, imm .eor, acc .lsr, unk, abs .jmp, abs .eor, abs .lsr, unk],
  #v[rel .bvc, izy .eor, unk, unk, unk, zpx .eor, zpx .lsr, unk, imp .cli, aby .eor, unk, unk, unk, abx .eor, abx .lsr, unk],
  #v[imp .rts, izx .adc, unk, unk, unk, zp .adc, zp .ror, unk, imp .pla, imm .adc, acc .ror, unk, ind .jmp, abs .adc, abs .ror, unk],
  #v[rel .bvs, izy .adc, unk, unk, unk, zpx .adc, zpx .ror, unk, imp .sei, aby .adc, unk, unk, unk, abx .adc, abx .ror, unk],
  #v[unk, izx .sta, unk, unk, zp .sty, zp .sta, zp .stx, unk, imp .dey, unk, imp .txa, unk, abs .sty, abs .sta, abs .stx, unk],
  #v[rel .bcc, izy .sta, unk, unk, zpx .sty, zpx .sta, zpy .stx, unk, imp .tya, aby .sta, imp .txs, unk, unk, abx .sta, unk, unk],
  #v[imm .ldy, izx .lda, imm .ldx, unk, zp .ldy, zp .lda, zp .ldx, unk, imp .tay, imm .lda, imp .tax, unk, abs .ldy, abs .lda, abs .ldx, unk],
  #v[rel .bcs, izy .lda, unk, unk, zpx .ldy, zpx .lda, zpy .ldx, unk, imp .clv, aby .lda, imp .tsx, unk, abx .ldy, abx .lda, aby .ldx, unk],
  #v[imm .cpy, izx .cmp, unk, unk, zp .cpy, zp .cmp, zp .dec, unk, imp .iny, imm .cmp, imp .dex, unk, abs .cpy, abs .cmp, abs .dec, unk],
  #v[rel .bne, izy .cmp, unk, unk, unk, zpx .cmp, zpx .dec, unk, imp .cld, aby .cmp, unk, unk, unk, abx .cmp, abx .dec, unk],
  #v[imm .cpx, izx .sbc, unk, unk, zp .cpx, zp .sbc, zp .inc, unk, imp .inx, imm .sbc, imp .nop, unk, abs .cpx, abs .sbc, abs .inc, unk],
  #v[rel .beq, izy .sbc, unk, unk, unk, zpx .sbc, zpx .inc, unk, imp .sed, aby .sbc, unk, unk, unk, abx .sbc, abx .inc, unk]]

/-- The ROM words of rule R79, rows and columns as in the map. -/
def romWordTable : Vector (Vector RomWord 16) 16 := #v[
  #v[0x281, 0x89A, 0xE31, 0xE31, 0xE31, 0x88E, 0x08E, 0xE31, 0x901, 0x88A, 0x085, 0xE31, 0xE31, 0x8A3, 0x0A3, 0xE31],
  #v[0x26E, 0x89E, 0xE31, 0xE31, 0xE31, 0x892, 0x092, 0xE31, 0x341, 0x8AB, 0xE31, 0xE31, 0xE31, 0x8A7, 0x0A7, 0xE31],
  #v[0x723, 0x05A, 0xE31, 0xE31, 0x18E, 0x04E, 0x9CE, 0xE31, 0x981, 0x04A, 0x9C5, 0xE31, 0x1A3, 0x063, 0x9E3, 0xE31],
  #v[0x1EE, 0x05E, 0xE31, 0xE31, 0xE31, 0x052, 0x9D2, 0xE31, 0xB01, 0x06B, 0xE31, 0xE31, 0xE31, 0x067, 0x9E7, 0xE31],
  #v[0xA41, 0x5DA, 0xE31, 0xE31, 0xE31, 0x5CE, 0x80E, 0xE31, 0x8C1, 0x5CA, 0x805, 0xE31, 0x6E3, 0x5E3, 0x823, 0xE31],
  #v[0x2EE, 0x5DE, 0xE31, 0xE31, 0xE31, 0x5D2, 0x812, 0xE31, 0x3C1, 0x5EB, 0xE31, 0xE31, 0xE31, 0x5E7, 0x827, 0xE31],
  #v[0xA81, 0x01A, 0xE31, 0xE31, 0xE31, 0x00E, 0xA0E, 0xE31, 0x941, 0x00A, 0xA05, 0xE31, 0x6F7, 0x023, 0xA23, 0xE31],
  #v[0x32E, 0x01E, 0xE31, 0xE31, 0xE31, 0x012, 0xA12, 0xE31, 0xB81, 0x02B, 0xE31, 0xE31, 0xE31, 0x027, 0xA27, 0xE31],
  #v[0xE31, 0xBDA, 0xE31, 0xE31, 0xC4E, 0xBCE, 0xC0E, 0xE31, 0x581, 0xE31, 0xD41, 0xE31, 0xC63, 0xBE3, 0xC23, 0xE31],
  #v[0x0EE, 0xBDE, 0xE31, 0xE31, 0xC52, 0xBD2, 0xC16, 0xE31, 0xDC1, 0xBEB, 0xD81, 0xE31, 0xE31, 0xBE7, 0xE31, 0xE31],
  #v[0x7CA, 0x75A, 0x78A, 0xE31, 0x7CE, 0x74E, 0x78E, 0xE31, 0xCC1, 0x74A, 0xC81, 0xE31, 0x7E3, 0x763, 0x7A3, 0xE31],
  #v[0x12E, 0x75E, 0xE31, 0xE31, 0x7D2, 0x752, 0x796, 0xE31, 0x401, 0x76B, 0xD01, 0xE31, 0x7E7, 0x767, 0x7AB, 0xE31],
  #v[0x4CA, 0x45A, 0xE31, 0xE31, 0x4CE, 0x44E, 0x50E, 0xE31, 0x681, 0x44A, 0x541, 0xE31, 0x4E3, 0x463, 0x523, 0xE31],
  #v[0x22E, 0x45E, 0xE31, 0xE31, 0xE31, 0x452, 0x512, 0xE31, 0x381, 0x46B, 0xE31, 0xE31, 0xE31, 0x467, 0x527, 0xE31],
  #v[0x48A, 0xADA, 0xE31, 0xE31, 0x48E, 0xACE, 0x60E, 0xE31, 0x641, 0xACA, 0x841, 0xE31, 0x4A3, 0xAE3, 0x623, 0xE31],
  #v[0x16E, 0xADE, 0xE31, 0xE31, 0xE31, 0xAD2, 0x612, 0xE31, 0xB41, 0xAEB, 0xE31, 0xE31, 0xE31, 0xAE7, 0x627, 0xE31]]

/-- The read port of a table of 256 entries: the selection by the opcode byte, all 8 bits, total (R55, R85). -/
def select256 {α : Type} (t : Vector (Vector α 16) 16) (op : Byte) : α :=
  (t[op.toNat / 16]'(by omega))[op.toNat % 16]'(by omega)

/-- `Rom(op)`, the descriptor of an opcode byte (R55, R77, R78). -/
def rom (op : Byte) : Descriptor := select256 romTable op

/-- The 12-bit ROM word of an opcode byte, `rom_word` (R79, 10_state.md R30). -/
def romWord (op : Byte) : RomWord := select256 romWordTable op

/-- The instruction of each opcode byte, rows and columns as in R78's map. -/
def instrTable : Vector (Vector Instr 16) 16 := #v[
  #v[.brkImp, .oraIzx, .unk 0x02, .unk 0x03, .unk 0x04, .oraZp, .aslZp, .unk 0x07, .phpImp, .oraImm, .aslAcc, .unk 0x0B, .unk 0x0C, .oraAbs, .aslAbs, .unk 0x0F],
  #v[.bplRel, .oraIzy, .unk 0x12, .unk 0x13, .unk 0x14, .oraZpx, .aslZpx, .unk 0x17, .clcImp, .oraAby, .unk 0x1A, .unk 0x1B, .unk 0x1C, .oraAbx, .aslAbx, .unk 0x1F],
  #v[.jsrAbs, .andIzx, .unk 0x22, .unk 0x23, .bitZp, .andZp, .rolZp, .unk 0x27, .plpImp, .andImm, .rolAcc, .unk 0x2B, .bitAbs, .andAbs, .rolAbs, .unk 0x2F],
  #v[.bmiRel, .andIzy, .unk 0x32, .unk 0x33, .unk 0x34, .andZpx, .rolZpx, .unk 0x37, .secImp, .andAby, .unk 0x3A, .unk 0x3B, .unk 0x3C, .andAbx, .rolAbx, .unk 0x3F],
  #v[.rtiImp, .eorIzx, .unk 0x42, .unk 0x43, .unk 0x44, .eorZp, .lsrZp, .unk 0x47, .phaImp, .eorImm, .lsrAcc, .unk 0x4B, .jmpAbs, .eorAbs, .lsrAbs, .unk 0x4F],
  #v[.bvcRel, .eorIzy, .unk 0x52, .unk 0x53, .unk 0x54, .eorZpx, .lsrZpx, .unk 0x57, .cliImp, .eorAby, .unk 0x5A, .unk 0x5B, .unk 0x5C, .eorAbx, .lsrAbx, .unk 0x5F],
  #v[.rtsImp, .adcIzx, .unk 0x62, .unk 0x63, .unk 0x64, .adcZp, .rorZp, .unk 0x67, .plaImp, .adcImm, .rorAcc, .unk 0x6B, .jmpInd, .adcAbs, .rorAbs, .unk 0x6F],
  #v[.bvsRel, .adcIzy, .unk 0x72, .unk 0x73, .unk 0x74, .adcZpx, .rorZpx, .unk 0x77, .seiImp, .adcAby, .unk 0x7A, .unk 0x7B, .unk 0x7C, .adcAbx, .rorAbx, .unk 0x7F],
  #v[.unk 0x80, .staIzx, .unk 0x82, .unk 0x83, .styZp, .staZp, .stxZp, .unk 0x87, .deyImp, .unk 0x89, .txaImp, .unk 0x8B, .styAbs, .staAbs, .stxAbs, .unk 0x8F],
  #v[.bccRel, .staIzy, .unk 0x92, .unk 0x93, .styZpx, .staZpx, .stxZpy, .unk 0x97, .tyaImp, .staAby, .txsImp, .unk 0x9B, .unk 0x9C, .staAbx, .unk 0x9E, .unk 0x9F],
  #v[.ldyImm, .ldaIzx, .ldxImm, .unk 0xA3, .ldyZp, .ldaZp, .ldxZp, .unk 0xA7, .tayImp, .ldaImm, .taxImp, .unk 0xAB, .ldyAbs, .ldaAbs, .ldxAbs, .unk 0xAF],
  #v[.bcsRel, .ldaIzy, .unk 0xB2, .unk 0xB3, .ldyZpx, .ldaZpx, .ldxZpy, .unk 0xB7, .clvImp, .ldaAby, .tsxImp, .unk 0xBB, .ldyAbx, .ldaAbx, .ldxAby, .unk 0xBF],
  #v[.cpyImm, .cmpIzx, .unk 0xC2, .unk 0xC3, .cpyZp, .cmpZp, .decZp, .unk 0xC7, .inyImp, .cmpImm, .dexImp, .unk 0xCB, .cpyAbs, .cmpAbs, .decAbs, .unk 0xCF],
  #v[.bneRel, .cmpIzy, .unk 0xD2, .unk 0xD3, .unk 0xD4, .cmpZpx, .decZpx, .unk 0xD7, .cldImp, .cmpAby, .unk 0xDA, .unk 0xDB, .unk 0xDC, .cmpAbx, .decAbx, .unk 0xDF],
  #v[.cpxImm, .sbcIzx, .unk 0xE2, .unk 0xE3, .cpxZp, .sbcZp, .incZp, .unk 0xE7, .inxImp, .sbcImm, .nopImp, .unk 0xEB, .cpxAbs, .sbcAbs, .incAbs, .unk 0xEF],
  #v[.beqRel, .sbcIzy, .unk 0xF2, .unk 0xF3, .unk 0xF4, .sbcZpx, .incZpx, .unk 0xF7, .sedImp, .sbcAby, .unk 0xFA, .unk 0xFB, .unk 0xFC, .sbcAbx, .incAbx, .unk 0xFF]]

/-- The instruction an opcode byte selects: total, and from the opcode alone (R70, R82). -/
def decodeOpcode (op : Byte) : Instr := select256 instrTable op

/-- Why a byte sequence holds no instruction. -/
inductive DecodeError where
  /-- There is no opcode byte. Raised by `decode` on the empty sequence only; safe. -/
  | noOpcodeByte
  deriving DecidableEq, Repr

/-- The instruction at the head of a byte sequence and the bytes after its opcode: operand bytes are no part of the decoding
(R70, R73). -/
def decode : List Byte → Except DecodeError (Instr × List Byte)
  | [] => .error .noOpcodeByte
  | op :: rest => .ok (decodeOpcode op, rest)

/-- The opcode byte of an instruction (the `opcode` of each rule R200 to R350; R351 for `unk`). -/
def Instr.opcode : Instr → Byte
  | .ldaImm => 0xA9 | .ldaZp => 0xA5 | .ldaZpx => 0xB5 | .ldaAbs => 0xAD | .ldaAbx => 0xBD | .ldaAby => 0xB9
  | .ldaIzx => 0xA1 | .ldaIzy => 0xB1 | .ldxImm => 0xA2 | .ldxZp => 0xA6 | .ldxZpy => 0xB6 | .ldxAbs => 0xAE
  | .ldxAby => 0xBE | .ldyImm => 0xA0 | .ldyZp => 0xA4 | .ldyZpx => 0xB4 | .ldyAbs => 0xAC | .ldyAbx => 0xBC
  | .staZp => 0x85 | .staZpx => 0x95 | .staAbs => 0x8D | .staAbx => 0x9D | .staAby => 0x99 | .staIzx => 0x81
  | .staIzy => 0x91 | .stxZp => 0x86 | .stxZpy => 0x96 | .stxAbs => 0x8E | .styZp => 0x84 | .styZpx => 0x94
  | .styAbs => 0x8C | .taxImp => 0xAA | .tayImp => 0xA8 | .tsxImp => 0xBA | .txaImp => 0x8A | .txsImp => 0x9A
  | .tyaImp => 0x98 | .phaImp => 0x48 | .phpImp => 0x08 | .plaImp => 0x68 | .plpImp => 0x28 | .andImm => 0x29
  | .andZp => 0x25 | .andZpx => 0x35 | .andAbs => 0x2D | .andAbx => 0x3D | .andAby => 0x39 | .andIzx => 0x21
  | .andIzy => 0x31 | .eorImm => 0x49 | .eorZp => 0x45 | .eorZpx => 0x55 | .eorAbs => 0x4D | .eorAbx => 0x5D
  | .eorAby => 0x59 | .eorIzx => 0x41 | .eorIzy => 0x51 | .oraImm => 0x09 | .oraZp => 0x05 | .oraZpx => 0x15
  | .oraAbs => 0x0D | .oraAbx => 0x1D | .oraAby => 0x19 | .oraIzx => 0x01 | .oraIzy => 0x11 | .bitZp => 0x24
  | .bitAbs => 0x2C | .adcImm => 0x69 | .adcZp => 0x65 | .adcZpx => 0x75 | .adcAbs => 0x6D | .adcAbx => 0x7D
  | .adcAby => 0x79 | .adcIzx => 0x61 | .adcIzy => 0x71 | .sbcImm => 0xE9 | .sbcZp => 0xE5 | .sbcZpx => 0xF5
  | .sbcAbs => 0xED | .sbcAbx => 0xFD | .sbcAby => 0xF9 | .sbcIzx => 0xE1 | .sbcIzy => 0xF1 | .cmpImm => 0xC9
  | .cmpZp => 0xC5 | .cmpZpx => 0xD5 | .cmpAbs => 0xCD | .cmpAbx => 0xDD | .cmpAby => 0xD9 | .cmpIzx => 0xC1
  | .cmpIzy => 0xD1 | .cpxImm => 0xE0 | .cpxZp => 0xE4 | .cpxAbs => 0xEC | .cpyImm => 0xC0 | .cpyZp => 0xC4
  | .cpyAbs => 0xCC | .incZp => 0xE6 | .incZpx => 0xF6 | .incAbs => 0xEE | .incAbx => 0xFE | .inxImp => 0xE8
  | .inyImp => 0xC8 | .decZp => 0xC6 | .decZpx => 0xD6 | .decAbs => 0xCE | .decAbx => 0xDE | .dexImp => 0xCA
  | .deyImp => 0x88 | .aslZp => 0x06 | .aslZpx => 0x16 | .aslAbs => 0x0E | .aslAbx => 0x1E | .aslAcc => 0x0A
  | .lsrZp => 0x46 | .lsrZpx => 0x56 | .lsrAbs => 0x4E | .lsrAbx => 0x5E | .lsrAcc => 0x4A | .rolZp => 0x26
  | .rolZpx => 0x36 | .rolAbs => 0x2E | .rolAbx => 0x3E | .rolAcc => 0x2A | .rorZp => 0x66 | .rorZpx => 0x76
  | .rorAbs => 0x6E | .rorAbx => 0x7E | .rorAcc => 0x6A | .jmpAbs => 0x4C | .jmpInd => 0x6C | .jsrAbs => 0x20
  | .rtsImp => 0x60 | .brkImp => 0x00 | .rtiImp => 0x40 | .bccRel => 0x90 | .bcsRel => 0xB0 | .beqRel => 0xF0
  | .bmiRel => 0x30 | .bneRel => 0xD0 | .bplRel => 0x10 | .bvcRel => 0x50 | .bvsRel => 0x70 | .clcImp => 0x18
  | .cldImp => 0xD8 | .cliImp => 0x58 | .clvImp => 0xB8 | .secImp => 0x38 | .sedImp => 0xF8 | .seiImp => 0x78
  | .nopImp => 0xEA
  | .unk op => op

/-- The encoding of an instruction: its opcode byte, the only byte the decoder reads (R70). -/
def encode (i : Instr) : List Byte := [i.opcode]

/-- An instruction in a buffer: its opcode byte and then its operand bytes, in buffer order (R70, R71). -/
def encodeWith (i : Instr) (ops : List Byte) : List Byte := encode i ++ ops

/-- The bytes of an instruction whose bits are `w` as the opcode table numbers them: bit 0 is the least significant bit of the
first byte, the second byte is bits 15 to 8; every bit above `nbits` is 0, up to the longest instruction of 3 bytes. -/
def tableBytes (nbits w : Nat) : List Byte :=
  (List.range 3).map fun k => BitVec.ofNat 8 (w % 2 ^ nbits / 256 ^ k)

/-- The instruction the decoder reads from an instruction whose bits are `w`. -/
def decodeTableWord (nbits w : Nat) : Option Instr :=
  match decode (tableBytes nbits w) with
  | .ok (i, _) => some i
  | .error _ => none

end Sys2Proof
end

