-- ==== Sys2Proof/Machine/State.lean ====
section
/-! DEFINITION. The state of the walker and of its interface (spec/10_state.md), the refusals, and the state after reset. -/

namespace Sys2Proof.Machine

/-- The buffer's bytes as a list of (offset, byte): offsets strictly rising, no byte listed that equals what an unlisted offset
reads as (`Memory.wf`). -/
abbrev Memory := List Host.Cell

/-- A decoded record (10_state.md R27). `nops` is the length of `ops`: a lane with index `nops` or above holds no value (R29). -/
structure Record where
  /-- Where the instruction begins in the buffer. -/
  off   : Offset
  mnem  : Mnemonic
  mode  : Mode
  /-- The declared length, even for a truncated record. -/
  len   : Len
  /-- The operand bytes present, in buffer order. -/
  ops   : List Byte
  /-- Set only on a truncated record. -/
  trunc : Bool
  deriving DecidableEq, Repr

/-- The state of the walker (`cursor`, `trunc`, `out`: 10_state.md R21), the parameters of its run (`n` and `buf`: R31), the input
`buf_len` (R30), and the refusal mark of 70_reset_and_hazards.md R436.

The spec makes B and N arguments of the run; a step of this model has no argument but the state, so the state holds them. DESIGN
CHOICE (log entry 1); safe. -/
structure State where
  /-- The program counter of this hardware: the offset of the opcode byte being decoded (R22). -/
  cursor : Offset
  /-- The run ended on a truncated instruction (R24). -/
  trunc : Bool
  /-- The records emitted since the last reset, in order (R27). -/
  out : List Record
  /-- `N`, the buffer length of the run, sampled from `buf_len` by the reset (R31, 70 R430). -/
  n : Offset
  /-- `B`, the buffer as the host has loaded it (R31, 20_memory.md R50). -/
  buf : Memory
  /-- The input `buf_len`, held constant by the host for the whole run (R30). -/
  bufLen : Offset
  /-- The refusal mark: the host changed B or N during this run (70 R436). Log entry 6. -/
  hostChanged : Bool
  deriving DecidableEq, Repr

/-- The hardware raises no exception, trap or fault for any input, and no step can fail (60_exceptions.md R400): no fault has a
name, so no step can answer one. -/
inductive Fault where
  deriving DecidableEq, Repr

/-- Why the model gives a step no meaning. -/
inductive Refusal where
  /-- An instruction without a meaning yet; raised by no arm of `exec` in this model. Safe. -/
  | notModelled (mnemonic : String)
  /-- The host changed B or N during the run (70_reset_and_hazards.md R436, 92_eei_decisions.md D14); raised by `step`. Safe. -/
  | hostChangedRun
  /-- The host presented `N > N_MAX` (70 R436, 92 D15); raised by `step`. Safe. -/
  | bufferTooLarge
  /-- A buffer read at an offset `>= N`, which has no meaning (20_memory.md R52, 93_implementation_defined.md U1); raised by
  the walker step and the fetch in their code, on no state (R52). Safe. -/
  | readPastBuffer
  deriving DecidableEq, Repr

/-- The walker right after reset (10_state.md R34): `cursor` 0, `trunc` 0, `out` empty.

The run parameters have no reset value in the spec: the host supplies them (R31). DESIGN CHOICE (log entry 3): no buffer is
loaded, so `n` and `buf_len` are 0 and nothing is listed; unsafe. The refusal mark is clear (log entry 6). -/
def State.reset : State where
  cursor := 0
  trunc := false
  out := []
  n := 0
  buf := []
  bufLen := 0
  hostChanged := false

end Sys2Proof.Machine
end

