-- ==== Sys2Proof/Machine/Flags.lean ====
section
/-! DEFINITION. The bits the walker computes: the bounds test of a step, and `done` (spec/10_state.md R25). The hardware has no
other flag than `trunc` (R24, R26). -/

namespace Sys2Proof.Machine

/-- `done = (trunc == 1) or (cursor >= N)`, combinational (10_state.md R25). -/
def State.done (s : State) : Bool := s.trunc || decide (s.n.toNat ≤ s.cursor.toNat)

/-- The bounds test of a step, `off + len <= N`, on unbounded numbers (40_decoder_walker.md R100, 00_scope.md R9). -/
def fits (d : Descriptor) (s : State) : Bool := decide (s.cursor.toNat + d.len.toNat ≤ s.n.toNat)

end Sys2Proof.Machine
end

