-- ==== Sys2Proof/Machine/Ops.lean ====
section
/-! DEFINITION. The named operations over the buffer and the walker's registers. The hardware has no exception to take and none
to return from (spec/60_exceptions.md R404, R405): the truncated outcome, `State.endTruncated`, is the nearest thing (R404). -/

namespace Sys2Proof.Machine

/-- What an offset the buffer's list does not hold reads as. DESIGN CHOICE (log entry 2): 0x00, so that the list stands for a
buffer whose every byte has a value (20_memory.md R64); unsafe. -/
def Memory.unlisted : Byte := 0

/-- The byte at an offset. -/
def Memory.read : Memory → Nat → Byte
  | [], _ => Memory.unlisted
  | (k, v) :: m, a => if a = k then v else Memory.read m a

/-- A byte put at the head of a list that holds only higher offsets; the byte an unlisted offset reads as is not listed. -/
def Memory.cons (a : Nat) (b : Byte) (m : Memory) : Memory := if b = Memory.unlisted then m else (a, b) :: m

/-- The byte at an offset replaced, in canonical form. -/
def Memory.write : Memory → Nat → Byte → Memory
  | [], a, b => Memory.cons a b []
  | (k, v) :: m, a, b =>
    if a < k then Memory.cons a b ((k, v) :: m)
    else if a = k then Memory.cons a b m
    else (k, v) :: Memory.write m a b

/-- Every offset listed is at least `lo`, the offsets rise strictly, and no listed byte is the unlisted one. -/
def Memory.wfFrom : Nat → Memory → Bool
  | _, [] => true
  | lo, (k, v) :: m => decide (lo ≤ k) && decide (v ≠ Memory.unlisted) && Memory.wfFrom (k + 1) m

/-- The canonical form of the buffer's list. -/
def Memory.wf (m : Memory) : Bool := Memory.wfFrom 0 m

/-- `BufRead(a)`: the byte the host loaded at offset `a`, defined only for `a < N` (20_memory.md R51, R52). -/
def bufRead (s : State) (a : Nat) : Option Byte := if a < s.n.toNat then some (s.buf.read a) else none

/-- `Emit(rec)`: the record appended to the output sequence (00_scope.md R10, 10_state.md R27). -/
def State.emit (s : State) (r : Record) : State := { s with out := s.out ++ [r] }

/-- `cursor <- v` (00_scope.md R10). -/
def State.setCursor (s : State) (v : Nat) : State := { s with cursor := BitVec.ofNat 17 v }

/-- `trunc <- 1`: the truncated outcome moves the walker to its final state; the cursor is not changed (40_decoder_walker.md
R100, 60_exceptions.md R404). -/
def State.endTruncated (s : State) : State := { s with trunc := true }

end Sys2Proof.Machine
end

