-- ==== Sys2Proof/Machine/Operands.lean ====
section
/-! DEFINITION. The operand-lane multiplexer (spec/40_decoder_walker.md R101): every operand form of the hardware is 0, 1 or 2 raw
bytes after the opcode, as many as the length asks for and the buffer holds. -/

namespace Sys2Proof.Machine

/-- `nops`, the number of operand bytes present (40_decoder_walker.md R101). -/
def nops (d : Descriptor) (s : State) : Nat :=
  if fits d s then d.len.toNat - 1 else s.n.toNat - s.cursor.toNat - 1

/-- The offsets of `k` operand lanes after the opcode at `off`, in buffer order (20_memory.md R53, R56). -/
def laneOffsets (off k : Nat) : List Nat := (List.range k).map fun i => off + 1 + i

/-- The bytes at some offsets, in order; none if one of them is not in the buffer. -/
def readAll (s : State) : List Nat → Option (List Byte)
  | [] => some []
  | a :: as =>
    match bufRead s a, readAll s as with
    | some b, some bs => some (b :: bs)
    | _, _ => none

/-- The operand bytes of the instruction at the cursor (40_decoder_walker.md R100, R101). -/
def operandBytes (d : Descriptor) (s : State) : Option (List Byte) :=
  readAll s (laneOffsets s.cursor.toNat (nops d s))

end Sys2Proof.Machine
end

