-- ==== Sys2Proof/Machine/Walk.lean ====
section
/-! DEFINITION. The walker step of spec/40_decoder_walker.md R100, for a descriptor: the operation every opcode's meaning is one
call of. -/

namespace Sys2Proof.Machine

/-- The record of the instruction at the cursor, with the operand bytes it has (40_decoder_walker.md R100, 10_state.md R28). -/
def recordOf (d : Descriptor) (ops : List Byte) (s : State) : Record where
  off := s.cursor
  mnem := d.mnem
  mode := d.mode
  len := d.len
  ops := ops
  trunc := !fits d s

/-- The walker step with the descriptor `d = Rom(op)`, steps 3 to 7 of R100: the bounds test, the operand bytes, the record, and
then `cursor <- off + len` or, on truncation, `trunc <- 1`.

A step is enabled only when `done == 0`; the walker in its final state holds `cursor`, `trunc` and `out` (10_state.md R25,
60_exceptions.md R412). DEDUCED (log entry 4); safe. -/
def walkStep (d : Descriptor) (s : State) : Host.Outcome State Fault Refusal :=
  if s.done then .next s
  else
    match operandBytes d s with
    | none => .refused .readPastBuffer
    | some ops =>
      let t := s.emit (recordOf d ops s)
      if fits d s then .next (t.setCursor (s.cursor.toNat + d.len.toNat)) else .next t.endTruncated

end Sys2Proof.Machine
end

