-- ==== Sys2Proof/Machine/Control.lean ====
section
/-! DEFINITION. Jump, call, return, interrupt and branch instructions (spec/45_control.md): each opcode's meaning is the walker step with the descriptor the ROM
holds for it. The hardware does not execute the instruction (00_scope.md R5 d, 10_state.md R26). -/

namespace Sys2Proof.Machine

/-- `JMP` absolute, opcode 0x4C: `Rom(0x4C) = JMP/absolute/3` (45_control.md R329). -/
def execJmpAbs (s : State) : Host.Outcome State Fault Refusal := walkStep (rom 0x4C) s

/-- `JMP` indirect, opcode 0x6C: `Rom(0x6C) = JMP/indirect/3` (45_control.md R330). -/
def execJmpInd (s : State) : Host.Outcome State Fault Refusal := walkStep (rom 0x6C) s

/-- `JSR` absolute, opcode 0x20: `Rom(0x20) = JSR/absolute/3` (45_control.md R331). -/
def execJsrAbs (s : State) : Host.Outcome State Fault Refusal := walkStep (rom 0x20) s

/-- `RTS` implied, opcode 0x60: `Rom(0x60) = RTS/implied/1` (45_control.md R332). -/
def execRtsImp (s : State) : Host.Outcome State Fault Refusal := walkStep (rom 0x60) s

/-- `BRK` implied, opcode 0x00: `Rom(0x00) = BRK/implied/1` (45_control.md R333). -/
def execBrkImp (s : State) : Host.Outcome State Fault Refusal := walkStep (rom 0x00) s

/-- `RTI` implied, opcode 0x40: `Rom(0x40) = RTI/implied/1` (45_control.md R334). -/
def execRtiImp (s : State) : Host.Outcome State Fault Refusal := walkStep (rom 0x40) s

/-- `BCC` relative, opcode 0x90: `Rom(0x90) = BCC/relative/2` (45_control.md R335). -/
def execBccRel (s : State) : Host.Outcome State Fault Refusal := walkStep (rom 0x90) s

/-- `BCS` relative, opcode 0xB0: `Rom(0xB0) = BCS/relative/2` (45_control.md R336). -/
def execBcsRel (s : State) : Host.Outcome State Fault Refusal := walkStep (rom 0xB0) s

/-- `BEQ` relative, opcode 0xF0: `Rom(0xF0) = BEQ/relative/2` (45_control.md R337). -/
def execBeqRel (s : State) : Host.Outcome State Fault Refusal := walkStep (rom 0xF0) s

/-- `BMI` relative, opcode 0x30: `Rom(0x30) = BMI/relative/2` (45_control.md R338). -/
def execBmiRel (s : State) : Host.Outcome State Fault Refusal := walkStep (rom 0x30) s

/-- `BNE` relative, opcode 0xD0: `Rom(0xD0) = BNE/relative/2` (45_control.md R339). -/
def execBneRel (s : State) : Host.Outcome State Fault Refusal := walkStep (rom 0xD0) s

/-- `BPL` relative, opcode 0x10: `Rom(0x10) = BPL/relative/2` (45_control.md R340). -/
def execBplRel (s : State) : Host.Outcome State Fault Refusal := walkStep (rom 0x10) s

/-- `BVC` relative, opcode 0x50: `Rom(0x50) = BVC/relative/2` (45_control.md R341). -/
def execBvcRel (s : State) : Host.Outcome State Fault Refusal := walkStep (rom 0x50) s

/-- `BVS` relative, opcode 0x70: `Rom(0x70) = BVS/relative/2` (45_control.md R342). -/
def execBvsRel (s : State) : Host.Outcome State Fault Refusal := walkStep (rom 0x70) s

end Sys2Proof.Machine
end

