-- ==== Sys2Proof/Machine/FlagsNop.lean ====
section
/-! DEFINITION. Status-flag and no-operation instructions (spec/46_flags_nop.md): each opcode's meaning is the walker step with the descriptor the ROM
holds for it. The hardware does not execute the instruction (00_scope.md R5 d, 10_state.md R26). -/

namespace Sys2Proof.Machine

/-- `CLC` implied, opcode 0x18: `Rom(0x18) = CLC/implied/1` (46_flags_nop.md R343). -/
def execClcImp (s : State) : Host.Outcome State Fault Refusal := walkStep (rom 0x18) s

/-- `CLD` implied, opcode 0xD8: `Rom(0xD8) = CLD/implied/1` (46_flags_nop.md R344). -/
def execCldImp (s : State) : Host.Outcome State Fault Refusal := walkStep (rom 0xD8) s

/-- `CLI` implied, opcode 0x58: `Rom(0x58) = CLI/implied/1` (46_flags_nop.md R345). -/
def execCliImp (s : State) : Host.Outcome State Fault Refusal := walkStep (rom 0x58) s

/-- `CLV` implied, opcode 0xB8: `Rom(0xB8) = CLV/implied/1` (46_flags_nop.md R346). -/
def execClvImp (s : State) : Host.Outcome State Fault Refusal := walkStep (rom 0xB8) s

/-- `SEC` implied, opcode 0x38: `Rom(0x38) = SEC/implied/1` (46_flags_nop.md R347). -/
def execSecImp (s : State) : Host.Outcome State Fault Refusal := walkStep (rom 0x38) s

/-- `SED` implied, opcode 0xF8: `Rom(0xF8) = SED/implied/1` (46_flags_nop.md R348). -/
def execSedImp (s : State) : Host.Outcome State Fault Refusal := walkStep (rom 0xF8) s

/-- `SEI` implied, opcode 0x78: `Rom(0x78) = SEI/implied/1` (46_flags_nop.md R349). -/
def execSeiImp (s : State) : Host.Outcome State Fault Refusal := walkStep (rom 0x78) s

/-- `NOP` implied, opcode 0xEA: `Rom(0xEA) = NOP/implied/1` (46_flags_nop.md R350). -/
def execNopImp (s : State) : Host.Outcome State Fault Refusal := walkStep (rom 0xEA) s

end Sys2Proof.Machine
end

