-- ==== Sys2Proof/Machine/IncDecShift.lean ====
section
/-! DEFINITION. Increment, decrement, shift and rotate instructions (spec/44_incdec_shift.md): each opcode's meaning is the walker step with the descriptor the ROM
holds for it. The hardware does not execute the instruction (00_scope.md R5 d, 10_state.md R26). -/

namespace Sys2Proof.Machine

/-- `INC` zero-page, opcode 0xE6: `Rom(0xE6) = INC/zero-page/2` (44_incdec_shift.md R297). -/
def execIncZp (s : State) : Host.Outcome State Fault Refusal := walkStep (rom 0xE6) s

/-- `INC` zero-page-X, opcode 0xF6: `Rom(0xF6) = INC/zero-page-X/2` (44_incdec_shift.md R298). -/
def execIncZpx (s : State) : Host.Outcome State Fault Refusal := walkStep (rom 0xF6) s

/-- `INC` absolute, opcode 0xEE: `Rom(0xEE) = INC/absolute/3` (44_incdec_shift.md R299). -/
def execIncAbs (s : State) : Host.Outcome State Fault Refusal := walkStep (rom 0xEE) s

/-- `INC` absolute-X, opcode 0xFE: `Rom(0xFE) = INC/absolute-X/3` (44_incdec_shift.md R300). -/
def execIncAbx (s : State) : Host.Outcome State Fault Refusal := walkStep (rom 0xFE) s

/-- `INX` implied, opcode 0xE8: `Rom(0xE8) = INX/implied/1` (44_incdec_shift.md R301). -/
def execInxImp (s : State) : Host.Outcome State Fault Refusal := walkStep (rom 0xE8) s

/-- `INY` implied, opcode 0xC8: `Rom(0xC8) = INY/implied/1` (44_incdec_shift.md R302). -/
def execInyImp (s : State) : Host.Outcome State Fault Refusal := walkStep (rom 0xC8) s

/-- `DEC` zero-page, opcode 0xC6: `Rom(0xC6) = DEC/zero-page/2` (44_incdec_shift.md R303). -/
def execDecZp (s : State) : Host.Outcome State Fault Refusal := walkStep (rom 0xC6) s

/-- `DEC` zero-page-X, opcode 0xD6: `Rom(0xD6) = DEC/zero-page-X/2` (44_incdec_shift.md R304). -/
def execDecZpx (s : State) : Host.Outcome State Fault Refusal := walkStep (rom 0xD6) s

/-- `DEC` absolute, opcode 0xCE: `Rom(0xCE) = DEC/absolute/3` (44_incdec_shift.md R305). -/
def execDecAbs (s : State) : Host.Outcome State Fault Refusal := walkStep (rom 0xCE) s

/-- `DEC` absolute-X, opcode 0xDE: `Rom(0xDE) = DEC/absolute-X/3` (44_incdec_shift.md R306). -/
def execDecAbx (s : State) : Host.Outcome State Fault Refusal := walkStep (rom 0xDE) s

/-- `DEX` implied, opcode 0xCA: `Rom(0xCA) = DEX/implied/1` (44_incdec_shift.md R307). -/
def execDexImp (s : State) : Host.Outcome State Fault Refusal := walkStep (rom 0xCA) s

/-- `DEY` implied, opcode 0x88: `Rom(0x88) = DEY/implied/1` (44_incdec_shift.md R308). -/
def execDeyImp (s : State) : Host.Outcome State Fault Refusal := walkStep (rom 0x88) s

/-- `ASL` zero-page, opcode 0x06: `Rom(0x06) = ASL/zero-page/2` (44_incdec_shift.md R309). -/
def execAslZp (s : State) : Host.Outcome State Fault Refusal := walkStep (rom 0x06) s

/-- `ASL` zero-page-X, opcode 0x16: `Rom(0x16) = ASL/zero-page-X/2` (44_incdec_shift.md R310). -/
def execAslZpx (s : State) : Host.Outcome State Fault Refusal := walkStep (rom 0x16) s

/-- `ASL` absolute, opcode 0x0E: `Rom(0x0E) = ASL/absolute/3` (44_incdec_shift.md R311). -/
def execAslAbs (s : State) : Host.Outcome State Fault Refusal := walkStep (rom 0x0E) s

/-- `ASL` absolute-X, opcode 0x1E: `Rom(0x1E) = ASL/absolute-X/3` (44_incdec_shift.md R312). -/
def execAslAbx (s : State) : Host.Outcome State Fault Refusal := walkStep (rom 0x1E) s

/-- `ASL` accumulator, opcode 0x0A: `Rom(0x0A) = ASL/accumulator/1` (44_incdec_shift.md R313). -/
def execAslAcc (s : State) : Host.Outcome State Fault Refusal := walkStep (rom 0x0A) s

/-- `LSR` zero-page, opcode 0x46: `Rom(0x46) = LSR/zero-page/2` (44_incdec_shift.md R314). -/
def execLsrZp (s : State) : Host.Outcome State Fault Refusal := walkStep (rom 0x46) s

/-- `LSR` zero-page-X, opcode 0x56: `Rom(0x56) = LSR/zero-page-X/2` (44_incdec_shift.md R315). -/
def execLsrZpx (s : State) : Host.Outcome State Fault Refusal := walkStep (rom 0x56) s

/-- `LSR` absolute, opcode 0x4E: `Rom(0x4E) = LSR/absolute/3` (44_incdec_shift.md R316). -/
def execLsrAbs (s : State) : Host.Outcome State Fault Refusal := walkStep (rom 0x4E) s

/-- `LSR` absolute-X, opcode 0x5E: `Rom(0x5E) = LSR/absolute-X/3` (44_incdec_shift.md R317). -/
def execLsrAbx (s : State) : Host.Outcome State Fault Refusal := walkStep (rom 0x5E) s

/-- `LSR` accumulator, opcode 0x4A: `Rom(0x4A) = LSR/accumulator/1` (44_incdec_shift.md R318). -/
def execLsrAcc (s : State) : Host.Outcome State Fault Refusal := walkStep (rom 0x4A) s

/-- `ROL` zero-page, opcode 0x26: `Rom(0x26) = ROL/zero-page/2` (44_incdec_shift.md R319). -/
def execRolZp (s : State) : Host.Outcome State Fault Refusal := walkStep (rom 0x26) s

/-- `ROL` zero-page-X, opcode 0x36: `Rom(0x36) = ROL/zero-page-X/2` (44_incdec_shift.md R320). -/
def execRolZpx (s : State) : Host.Outcome State Fault Refusal := walkStep (rom 0x36) s

/-- `ROL` absolute, opcode 0x2E: `Rom(0x2E) = ROL/absolute/3` (44_incdec_shift.md R321). -/
def execRolAbs (s : State) : Host.Outcome State Fault Refusal := walkStep (rom 0x2E) s

/-- `ROL` absolute-X, opcode 0x3E: `Rom(0x3E) = ROL/absolute-X/3` (44_incdec_shift.md R322). -/
def execRolAbx (s : State) : Host.Outcome State Fault Refusal := walkStep (rom 0x3E) s

/-- `ROL` accumulator, opcode 0x2A: `Rom(0x2A) = ROL/accumulator/1` (44_incdec_shift.md R323). -/
def execRolAcc (s : State) : Host.Outcome State Fault Refusal := walkStep (rom 0x2A) s

/-- `ROR` zero-page, opcode 0x66: `Rom(0x66) = ROR/zero-page/2` (44_incdec_shift.md R324). -/
def execRorZp (s : State) : Host.Outcome State Fault Refusal := walkStep (rom 0x66) s

/-- `ROR` zero-page-X, opcode 0x76: `Rom(0x76) = ROR/zero-page-X/2` (44_incdec_shift.md R325). -/
def execRorZpx (s : State) : Host.Outcome State Fault Refusal := walkStep (rom 0x76) s

/-- `ROR` absolute, opcode 0x6E: `Rom(0x6E) = ROR/absolute/3` (44_incdec_shift.md R326). -/
def execRorAbs (s : State) : Host.Outcome State Fault Refusal := walkStep (rom 0x6E) s

/-- `ROR` absolute-X, opcode 0x7E: `Rom(0x7E) = ROR/absolute-X/3` (44_incdec_shift.md R327). -/
def execRorAbx (s : State) : Host.Outcome State Fault Refusal := walkStep (rom 0x7E) s

/-- `ROR` accumulator, opcode 0x6A: `Rom(0x6A) = ROR/accumulator/1` (44_incdec_shift.md R328). -/
def execRorAcc (s : State) : Host.Outcome State Fault Refusal := walkStep (rom 0x6A) s

end Sys2Proof.Machine
end

