-- ==== Sys2Proof/Machine/LoadStore.lean ====
section
/-! DEFINITION. Load and store instructions (spec/41_load_store.md): each opcode's meaning is the walker step with the descriptor the ROM
holds for it. The hardware does not execute the instruction (00_scope.md R5 d, 10_state.md R26). -/

namespace Sys2Proof.Machine

/-- `LDA` immediate, opcode 0xA9: `Rom(0xA9) = LDA/immediate/2` (41_load_store.md R200). -/
def execLdaImm (s : State) : Host.Outcome State Fault Refusal := walkStep (rom 0xA9) s

/-- `LDA` zero-page, opcode 0xA5: `Rom(0xA5) = LDA/zero-page/2` (41_load_store.md R201). -/
def execLdaZp (s : State) : Host.Outcome State Fault Refusal := walkStep (rom 0xA5) s

/-- `LDA` zero-page-X, opcode 0xB5: `Rom(0xB5) = LDA/zero-page-X/2` (41_load_store.md R202). -/
def execLdaZpx (s : State) : Host.Outcome State Fault Refusal := walkStep (rom 0xB5) s

/-- `LDA` absolute, opcode 0xAD: `Rom(0xAD) = LDA/absolute/3` (41_load_store.md R203). -/
def execLdaAbs (s : State) : Host.Outcome State Fault Refusal := walkStep (rom 0xAD) s

/-- `LDA` absolute-X, opcode 0xBD: `Rom(0xBD) = LDA/absolute-X/3` (41_load_store.md R204). -/
def execLdaAbx (s : State) : Host.Outcome State Fault Refusal := walkStep (rom 0xBD) s

/-- `LDA` absolute-Y, opcode 0xB9: `Rom(0xB9) = LDA/absolute-Y/3` (41_load_store.md R205). -/
def execLdaAby (s : State) : Host.Outcome State Fault Refusal := walkStep (rom 0xB9) s

/-- `LDA` indexed-indirect, opcode 0xA1: `Rom(0xA1) = LDA/indexed-indirect/2` (41_load_store.md R206). -/
def execLdaIzx (s : State) : Host.Outcome State Fault Refusal := walkStep (rom 0xA1) s

/-- `LDA` indirect-indexed, opcode 0xB1: `Rom(0xB1) = LDA/indirect-indexed/2` (41_load_store.md R207). -/
def execLdaIzy (s : State) : Host.Outcome State Fault Refusal := walkStep (rom 0xB1) s

/-- `LDX` immediate, opcode 0xA2: `Rom(0xA2) = LDX/immediate/2` (41_load_store.md R208). -/
def execLdxImm (s : State) : Host.Outcome State Fault Refusal := walkStep (rom 0xA2) s

/-- `LDX` zero-page, opcode 0xA6: `Rom(0xA6) = LDX/zero-page/2` (41_load_store.md R209). -/
def execLdxZp (s : State) : Host.Outcome State Fault Refusal := walkStep (rom 0xA6) s

/-- `LDX` zero-page-Y, opcode 0xB6: `Rom(0xB6) = LDX/zero-page-Y/2` (41_load_store.md R210). -/
def execLdxZpy (s : State) : Host.Outcome State Fault Refusal := walkStep (rom 0xB6) s

/-- `LDX` absolute, opcode 0xAE: `Rom(0xAE) = LDX/absolute/3` (41_load_store.md R211). -/
def execLdxAbs (s : State) : Host.Outcome State Fault Refusal := walkStep (rom 0xAE) s

/-- `LDX` absolute-Y, opcode 0xBE: `Rom(0xBE) = LDX/absolute-Y/3` (41_load_store.md R212). -/
def execLdxAby (s : State) : Host.Outcome State Fault Refusal := walkStep (rom 0xBE) s

/-- `LDY` immediate, opcode 0xA0: `Rom(0xA0) = LDY/immediate/2` (41_load_store.md R213). -/
def execLdyImm (s : State) : Host.Outcome State Fault Refusal := walkStep (rom 0xA0) s

/-- `LDY` zero-page, opcode 0xA4: `Rom(0xA4) = LDY/zero-page/2` (41_load_store.md R214). -/
def execLdyZp (s : State) : Host.Outcome State Fault Refusal := walkStep (rom 0xA4) s

/-- `LDY` zero-page-X, opcode 0xB4: `Rom(0xB4) = LDY/zero-page-X/2` (41_load_store.md R215). -/
def execLdyZpx (s : State) : Host.Outcome State Fault Refusal := walkStep (rom 0xB4) s

/-- `LDY` absolute, opcode 0xAC: `Rom(0xAC) = LDY/absolute/3` (41_load_store.md R216). -/
def execLdyAbs (s : State) : Host.Outcome State Fault Refusal := walkStep (rom 0xAC) s

/-- `LDY` absolute-X, opcode 0xBC: `Rom(0xBC) = LDY/absolute-X/3` (41_load_store.md R217). -/
def execLdyAbx (s : State) : Host.Outcome State Fault Refusal := walkStep (rom 0xBC) s

/-- `STA` zero-page, opcode 0x85: `Rom(0x85) = STA/zero-page/2` (41_load_store.md R218). -/
def execStaZp (s : State) : Host.Outcome State Fault Refusal := walkStep (rom 0x85) s

/-- `STA` zero-page-X, opcode 0x95: `Rom(0x95) = STA/zero-page-X/2` (41_load_store.md R219). -/
def execStaZpx (s : State) : Host.Outcome State Fault Refusal := walkStep (rom 0x95) s

/-- `STA` absolute, opcode 0x8D: `Rom(0x8D) = STA/absolute/3` (41_load_store.md R220). -/
def execStaAbs (s : State) : Host.Outcome State Fault Refusal := walkStep (rom 0x8D) s

/-- `STA` absolute-X, opcode 0x9D: `Rom(0x9D) = STA/absolute-X/3` (41_load_store.md R221). -/
def execStaAbx (s : State) : Host.Outcome State Fault Refusal := walkStep (rom 0x9D) s

/-- `STA` absolute-Y, opcode 0x99: `Rom(0x99) = STA/absolute-Y/3` (41_load_store.md R222). -/
def execStaAby (s : State) : Host.Outcome State Fault Refusal := walkStep (rom 0x99) s

/-- `STA` indexed-indirect, opcode 0x81: `Rom(0x81) = STA/indexed-indirect/2` (41_load_store.md R223). -/
def execStaIzx (s : State) : Host.Outcome State Fault Refusal := walkStep (rom 0x81) s

/-- `STA` indirect-indexed, opcode 0x91: `Rom(0x91) = STA/indirect-indexed/2` (41_load_store.md R224). -/
def execStaIzy (s : State) : Host.Outcome State Fault Refusal := walkStep (rom 0x91) s

/-- `STX` zero-page, opcode 0x86: `Rom(0x86) = STX/zero-page/2` (41_load_store.md R225). -/
def execStxZp (s : State) : Host.Outcome State Fault Refusal := walkStep (rom 0x86) s

/-- `STX` zero-page-Y, opcode 0x96: `Rom(0x96) = STX/zero-page-Y/2` (41_load_store.md R226). -/
def execStxZpy (s : State) : Host.Outcome State Fault Refusal := walkStep (rom 0x96) s

/-- `STX` absolute, opcode 0x8E: `Rom(0x8E) = STX/absolute/3` (41_load_store.md R227). -/
def execStxAbs (s : State) : Host.Outcome State Fault Refusal := walkStep (rom 0x8E) s

/-- `STY` zero-page, opcode 0x84: `Rom(0x84) = STY/zero-page/2` (41_load_store.md R228). -/
def execStyZp (s : State) : Host.Outcome State Fault Refusal := walkStep (rom 0x84) s

/-- `STY` zero-page-X, opcode 0x94: `Rom(0x94) = STY/zero-page-X/2` (41_load_store.md R229). -/
def execStyZpx (s : State) : Host.Outcome State Fault Refusal := walkStep (rom 0x94) s

/-- `STY` absolute, opcode 0x8C: `Rom(0x8C) = STY/absolute/3` (41_load_store.md R230). -/
def execStyAbs (s : State) : Host.Outcome State Fault Refusal := walkStep (rom 0x8C) s

end Sys2Proof.Machine
end

