-- ==== Sys2Proof/Machine/LogicArithCompare.lean ====
section
/-! DEFINITION. Logical, arithmetic and compare instructions (spec/43_logic_arith_compare.md): each opcode's meaning is the walker step with the descriptor the ROM
holds for it. The hardware does not execute the instruction (00_scope.md R5 d, 10_state.md R26). -/

namespace Sys2Proof.Machine

/-- `AND` immediate, opcode 0x29: `Rom(0x29) = AND/immediate/2` (43_logic_arith_compare.md R241). -/
def execAndImm (s : State) : Host.Outcome State Fault Refusal := walkStep (rom 0x29) s

/-- `AND` zero-page, opcode 0x25: `Rom(0x25) = AND/zero-page/2` (43_logic_arith_compare.md R242). -/
def execAndZp (s : State) : Host.Outcome State Fault Refusal := walkStep (rom 0x25) s

/-- `AND` zero-page-X, opcode 0x35: `Rom(0x35) = AND/zero-page-X/2` (43_logic_arith_compare.md R243). -/
def execAndZpx (s : State) : Host.Outcome State Fault Refusal := walkStep (rom 0x35) s

/-- `AND` absolute, opcode 0x2D: `Rom(0x2D) = AND/absolute/3` (43_logic_arith_compare.md R244). -/
def execAndAbs (s : State) : Host.Outcome State Fault Refusal := walkStep (rom 0x2D) s

/-- `AND` absolute-X, opcode 0x3D: `Rom(0x3D) = AND/absolute-X/3` (43_logic_arith_compare.md R245). -/
def execAndAbx (s : State) : Host.Outcome State Fault Refusal := walkStep (rom 0x3D) s

/-- `AND` absolute-Y, opcode 0x39: `Rom(0x39) = AND/absolute-Y/3` (43_logic_arith_compare.md R246). -/
def execAndAby (s : State) : Host.Outcome State Fault Refusal := walkStep (rom 0x39) s

/-- `AND` indexed-indirect, opcode 0x21: `Rom(0x21) = AND/indexed-indirect/2` (43_logic_arith_compare.md R247). -/
def execAndIzx (s : State) : Host.Outcome State Fault Refusal := walkStep (rom 0x21) s

/-- `AND` indirect-indexed, opcode 0x31: `Rom(0x31) = AND/indirect-indexed/2` (43_logic_arith_compare.md R248). -/
def execAndIzy (s : State) : Host.Outcome State Fault Refusal := walkStep (rom 0x31) s

/-- `EOR` immediate, opcode 0x49: `Rom(0x49) = EOR/immediate/2` (43_logic_arith_compare.md R249). -/
def execEorImm (s : State) : Host.Outcome State Fault Refusal := walkStep (rom 0x49) s

/-- `EOR` zero-page, opcode 0x45: `Rom(0x45) = EOR/zero-page/2` (43_logic_arith_compare.md R250). -/
def execEorZp (s : State) : Host.Outcome State Fault Refusal := walkStep (rom 0x45) s

/-- `EOR` zero-page-X, opcode 0x55: `Rom(0x55) = EOR/zero-page-X/2` (43_logic_arith_compare.md R251). -/
def execEorZpx (s : State) : Host.Outcome State Fault Refusal := walkStep (rom 0x55) s

/-- `EOR` absolute, opcode 0x4D: `Rom(0x4D) = EOR/absolute/3` (43_logic_arith_compare.md R252). -/
def execEorAbs (s : State) : Host.Outcome State Fault Refusal := walkStep (rom 0x4D) s

/-- `EOR` absolute-X, opcode 0x5D: `Rom(0x5D) = EOR/absolute-X/3` (43_logic_arith_compare.md R253). -/
def execEorAbx (s : State) : Host.Outcome State Fault Refusal := walkStep (rom 0x5D) s

/-- `EOR` absolute-Y, opcode 0x59: `Rom(0x59) = EOR/absolute-Y/3` (43_logic_arith_compare.md R254). -/
def execEorAby (s : State) : Host.Outcome State Fault Refusal := walkStep (rom 0x59) s

/-- `EOR` indexed-indirect, opcode 0x41: `Rom(0x41) = EOR/indexed-indirect/2` (43_logic_arith_compare.md R255). -/
def execEorIzx (s : State) : Host.Outcome State Fault Refusal := walkStep (rom 0x41) s

/-- `EOR` indirect-indexed, opcode 0x51: `Rom(0x51) = EOR/indirect-indexed/2` (43_logic_arith_compare.md R256). -/
def execEorIzy (s : State) : Host.Outcome State Fault Refusal := walkStep (rom 0x51) s

/-- `ORA` immediate, opcode 0x09: `Rom(0x09) = ORA/immediate/2` (43_logic_arith_compare.md R257). -/
def execOraImm (s : State) : Host.Outcome State Fault Refusal := walkStep (rom 0x09) s

/-- `ORA` zero-page, opcode 0x05: `Rom(0x05) = ORA/zero-page/2` (43_logic_arith_compare.md R258). -/
def execOraZp (s : State) : Host.Outcome State Fault Refusal := walkStep (rom 0x05) s

/-- `ORA` zero-page-X, opcode 0x15: `Rom(0x15) = ORA/zero-page-X/2` (43_logic_arith_compare.md R259). -/
def execOraZpx (s : State) : Host.Outcome State Fault Refusal := walkStep (rom 0x15) s

/-- `ORA` absolute, opcode 0x0D: `Rom(0x0D) = ORA/absolute/3` (43_logic_arith_compare.md R260). -/
def execOraAbs (s : State) : Host.Outcome State Fault Refusal := walkStep (rom 0x0D) s

/-- `ORA` absolute-X, opcode 0x1D: `Rom(0x1D) = ORA/absolute-X/3` (43_logic_arith_compare.md R261). -/
def execOraAbx (s : State) : Host.Outcome State Fault Refusal := walkStep (rom 0x1D) s

/-- `ORA` absolute-Y, opcode 0x19: `Rom(0x19) = ORA/absolute-Y/3` (43_logic_arith_compare.md R262). -/
def execOraAby (s : State) : Host.Outcome State Fault Refusal := walkStep (rom 0x19) s

/-- `ORA` indexed-indirect, opcode 0x01: `Rom(0x01) = ORA/indexed-indirect/2` (43_logic_arith_compare.md R263). -/
def execOraIzx (s : State) : Host.Outcome State Fault Refusal := walkStep (rom 0x01) s

/-- `ORA` indirect-indexed, opcode 0x11: `Rom(0x11) = ORA/indirect-indexed/2` (43_logic_arith_compare.md R264). -/
def execOraIzy (s : State) : Host.Outcome State Fault Refusal := walkStep (rom 0x11) s

/-- `BIT` zero-page, opcode 0x24: `Rom(0x24) = BIT/zero-page/2` (43_logic_arith_compare.md R265). -/
def execBitZp (s : State) : Host.Outcome State Fault Refusal := walkStep (rom 0x24) s

/-- `BIT` absolute, opcode 0x2C: `Rom(0x2C) = BIT/absolute/3` (43_logic_arith_compare.md R266). -/
def execBitAbs (s : State) : Host.Outcome State Fault Refusal := walkStep (rom 0x2C) s

/-- `ADC` immediate, opcode 0x69: `Rom(0x69) = ADC/immediate/2` (43_logic_arith_compare.md R267). -/
def execAdcImm (s : State) : Host.Outcome State Fault Refusal := walkStep (rom 0x69) s

/-- `ADC` zero-page, opcode 0x65: `Rom(0x65) = ADC/zero-page/2` (43_logic_arith_compare.md R268). -/
def execAdcZp (s : State) : Host.Outcome State Fault Refusal := walkStep (rom 0x65) s

/-- `ADC` zero-page-X, opcode 0x75: `Rom(0x75) = ADC/zero-page-X/2` (43_logic_arith_compare.md R269). -/
def execAdcZpx (s : State) : Host.Outcome State Fault Refusal := walkStep (rom 0x75) s

/-- `ADC` absolute, opcode 0x6D: `Rom(0x6D) = ADC/absolute/3` (43_logic_arith_compare.md R270). -/
def execAdcAbs (s : State) : Host.Outcome State Fault Refusal := walkStep (rom 0x6D) s

/-- `ADC` absolute-X, opcode 0x7D: `Rom(0x7D) = ADC/absolute-X/3` (43_logic_arith_compare.md R271). -/
def execAdcAbx (s : State) : Host.Outcome State Fault Refusal := walkStep (rom 0x7D) s

/-- `ADC` absolute-Y, opcode 0x79: `Rom(0x79) = ADC/absolute-Y/3` (43_logic_arith_compare.md R272). -/
def execAdcAby (s : State) : Host.Outcome State Fault Refusal := walkStep (rom 0x79) s

/-- `ADC` indexed-indirect, opcode 0x61: `Rom(0x61) = ADC/indexed-indirect/2` (43_logic_arith_compare.md R273). -/
def execAdcIzx (s : State) : Host.Outcome State Fault Refusal := walkStep (rom 0x61) s

/-- `ADC` indirect-indexed, opcode 0x71: `Rom(0x71) = ADC/indirect-indexed/2` (43_logic_arith_compare.md R274). -/
def execAdcIzy (s : State) : Host.Outcome State Fault Refusal := walkStep (rom 0x71) s

/-- `SBC` immediate, opcode 0xE9: `Rom(0xE9) = SBC/immediate/2` (43_logic_arith_compare.md R275). -/
def execSbcImm (s : State) : Host.Outcome State Fault Refusal := walkStep (rom 0xE9) s

/-- `SBC` zero-page, opcode 0xE5: `Rom(0xE5) = SBC/zero-page/2` (43_logic_arith_compare.md R276). -/
def execSbcZp (s : State) : Host.Outcome State Fault Refusal := walkStep (rom 0xE5) s

/-- `SBC` zero-page-X, opcode 0xF5: `Rom(0xF5) = SBC/zero-page-X/2` (43_logic_arith_compare.md R277). -/
def execSbcZpx (s : State) : Host.Outcome State Fault Refusal := walkStep (rom 0xF5) s

/-- `SBC` absolute, opcode 0xED: `Rom(0xED) = SBC/absolute/3` (43_logic_arith_compare.md R278). -/
def execSbcAbs (s : State) : Host.Outcome State Fault Refusal := walkStep (rom 0xED) s

/-- `SBC` absolute-X, opcode 0xFD: `Rom(0xFD) = SBC/absolute-X/3` (43_logic_arith_compare.md R279). -/
def execSbcAbx (s : State) : Host.Outcome State Fault Refusal := walkStep (rom 0xFD) s

/-- `SBC` absolute-Y, opcode 0xF9: `Rom(0xF9) = SBC/absolute-Y/3` (43_logic_arith_compare.md R280). -/
def execSbcAby (s : State) : Host.Outcome State Fault Refusal := walkStep (rom 0xF9) s

/-- `SBC` indexed-indirect, opcode 0xE1: `Rom(0xE1) = SBC/indexed-indirect/2` (43_logic_arith_compare.md R281). -/
def execSbcIzx (s : State) : Host.Outcome State Fault Refusal := walkStep (rom 0xE1) s

/-- `SBC` indirect-indexed, opcode 0xF1: `Rom(0xF1) = SBC/indirect-indexed/2` (43_logic_arith_compare.md R282). -/
def execSbcIzy (s : State) : Host.Outcome State Fault Refusal := walkStep (rom 0xF1) s

/-- `CMP` immediate, opcode 0xC9: `Rom(0xC9) = CMP/immediate/2` (43_logic_arith_compare.md R283). -/
def execCmpImm (s : State) : Host.Outcome State Fault Refusal := walkStep (rom 0xC9) s

/-- `CMP` zero-page, opcode 0xC5: `Rom(0xC5) = CMP/zero-page/2` (43_logic_arith_compare.md R284). -/
def execCmpZp (s : State) : Host.Outcome State Fault Refusal := walkStep (rom 0xC5) s

/-- `CMP` zero-page-X, opcode 0xD5: `Rom(0xD5) = CMP/zero-page-X/2` (43_logic_arith_compare.md R285). -/
def execCmpZpx (s : State) : Host.Outcome State Fault Refusal := walkStep (rom 0xD5) s

/-- `CMP` absolute, opcode 0xCD: `Rom(0xCD) = CMP/absolute/3` (43_logic_arith_compare.md R286). -/
def execCmpAbs (s : State) : Host.Outcome State Fault Refusal := walkStep (rom 0xCD) s

/-- `CMP` absolute-X, opcode 0xDD: `Rom(0xDD) = CMP/absolute-X/3` (43_logic_arith_compare.md R287). -/
def execCmpAbx (s : State) : Host.Outcome State Fault Refusal := walkStep (rom 0xDD) s

/-- `CMP` absolute-Y, opcode 0xD9: `Rom(0xD9) = CMP/absolute-Y/3` (43_logic_arith_compare.md R288). -/
def execCmpAby (s : State) : Host.Outcome State Fault Refusal := walkStep (rom 0xD9) s

/-- `CMP` indexed-indirect, opcode 0xC1: `Rom(0xC1) = CMP/indexed-indirect/2` (43_logic_arith_compare.md R289). -/
def execCmpIzx (s : State) : Host.Outcome State Fault Refusal := walkStep (rom 0xC1) s

/-- `CMP` indirect-indexed, opcode 0xD1: `Rom(0xD1) = CMP/indirect-indexed/2` (43_logic_arith_compare.md R290). -/
def execCmpIzy (s : State) : Host.Outcome State Fault Refusal := walkStep (rom 0xD1) s

/-- `CPX` immediate, opcode 0xE0: `Rom(0xE0) = CPX/immediate/2` (43_logic_arith_compare.md R291). -/
def execCpxImm (s : State) : Host.Outcome State Fault Refusal := walkStep (rom 0xE0) s

/-- `CPX` zero-page, opcode 0xE4: `Rom(0xE4) = CPX/zero-page/2` (43_logic_arith_compare.md R292). -/
def execCpxZp (s : State) : Host.Outcome State Fault Refusal := walkStep (rom 0xE4) s

/-- `CPX` absolute, opcode 0xEC: `Rom(0xEC) = CPX/absolute/3` (43_logic_arith_compare.md R293). -/
def execCpxAbs (s : State) : Host.Outcome State Fault Refusal := walkStep (rom 0xEC) s

/-- `CPY` immediate, opcode 0xC0: `Rom(0xC0) = CPY/immediate/2` (43_logic_arith_compare.md R294). -/
def execCpyImm (s : State) : Host.Outcome State Fault Refusal := walkStep (rom 0xC0) s

/-- `CPY` zero-page, opcode 0xC4: `Rom(0xC4) = CPY/zero-page/2` (43_logic_arith_compare.md R295). -/
def execCpyZp (s : State) : Host.Outcome State Fault Refusal := walkStep (rom 0xC4) s

/-- `CPY` absolute, opcode 0xCC: `Rom(0xCC) = CPY/absolute/3` (43_logic_arith_compare.md R296). -/
def execCpyAbs (s : State) : Host.Outcome State Fault Refusal := walkStep (rom 0xCC) s

end Sys2Proof.Machine
end

