-- ==== Sys2Proof/Machine/TransferStack.lean ====
section
/-! DEFINITION. Register-transfer and stack instructions (spec/42_transfer_stack.md): each opcode's meaning is the walker step with the descriptor the ROM
holds for it. The hardware does not execute the instruction (00_scope.md R5 d, 10_state.md R26). -/

namespace Sys2Proof.Machine

/-- `TAX` implied, opcode 0xAA: `Rom(0xAA) = TAX/implied/1` (42_transfer_stack.md R231). -/
def execTaxImp (s : State) : Host.Outcome State Fault Refusal := walkStep (rom 0xAA) s

/-- `TAY` implied, opcode 0xA8: `Rom(0xA8) = TAY/implied/1` (42_transfer_stack.md R232). -/
def execTayImp (s : State) : Host.Outcome State Fault Refusal := walkStep (rom 0xA8) s

/-- `TSX` implied, opcode 0xBA: `Rom(0xBA) = TSX/implied/1` (42_transfer_stack.md R233). -/
def execTsxImp (s : State) : Host.Outcome State Fault Refusal := walkStep (rom 0xBA) s

/-- `TXA` implied, opcode 0x8A: `Rom(0x8A) = TXA/implied/1` (42_transfer_stack.md R234). -/
def execTxaImp (s : State) : Host.Outcome State Fault Refusal := walkStep (rom 0x8A) s

/-- `TXS` implied, opcode 0x9A: `Rom(0x9A) = TXS/implied/1` (42_transfer_stack.md R235). -/
def execTxsImp (s : State) : Host.Outcome State Fault Refusal := walkStep (rom 0x9A) s

/-- `TYA` implied, opcode 0x98: `Rom(0x98) = TYA/implied/1` (42_transfer_stack.md R236). -/
def execTyaImp (s : State) : Host.Outcome State Fault Refusal := walkStep (rom 0x98) s

/-- `PHA` implied, opcode 0x48: `Rom(0x48) = PHA/implied/1` (42_transfer_stack.md R237). -/
def execPhaImp (s : State) : Host.Outcome State Fault Refusal := walkStep (rom 0x48) s

/-- `PHP` implied, opcode 0x08: `Rom(0x08) = PHP/implied/1` (42_transfer_stack.md R238). -/
def execPhpImp (s : State) : Host.Outcome State Fault Refusal := walkStep (rom 0x08) s

/-- `PLA` implied, opcode 0x68: `Rom(0x68) = PLA/implied/1` (42_transfer_stack.md R239). -/
def execPlaImp (s : State) : Host.Outcome State Fault Refusal := walkStep (rom 0x68) s

/-- `PLP` implied, opcode 0x28: `Rom(0x28) = PLP/implied/1` (42_transfer_stack.md R240). -/
def execPlpImp (s : State) : Host.Outcome State Fault Refusal := walkStep (rom 0x28) s

end Sys2Proof.Machine
end

