-- ==== Sys2Proof/Machine/Undefined.lean ====
section
/-! DEFINITION. The undefined opcode bytes (spec/47_undefined.md). -/

namespace Sys2Proof.Machine

/-- `UNK`, any byte of the undefined set: `Rom(u) = UNK/unknown/1` (47_undefined.md R351). -/
def execUnk (op : Byte) (s : State) : Host.Outcome State Fault Refusal := walkStep (rom op) s

end Sys2Proof.Machine
end

