-- ==== Sys2Proof/Machine/Fetch.lean ====
section
/-! DEFINITION. The fetch of a step: `op := BufRead(off)` and the instruction it selects (spec/40_decoder_walker.md R100, steps 1
and 2), and the placing of an instruction where the next step fetches it. -/

namespace Sys2Proof.Machine

/-- The instruction whose opcode byte stands at the cursor; none if the cursor is not in the buffer. -/
def State.fetch (s : State) : Option Instr := (bufRead s s.cursor.toNat).map decodeOpcode

/-- Bytes written one after another from an offset upward. -/
def Memory.writeAll : Memory → Nat → List Byte → Memory
  | m, _, [] => m
  | m, a, b :: bs => Memory.writeAll (m.write a b) (a + 1) bs

/-- The bytes of one instruction stored at the cursor, in a run that has them: N is at least the instruction's end, the walker is
not in its final state, and the run is not broken. Where the instruction would not fit below `N_MAX`, the cursor is first moved
to offset 0. It stands for the host's load of a buffer (70_reset_and_hazards.md R433; log entry 5). -/
def State.placeInstr (s : State) (bytes : List Byte) : State :=
  let at0 := if s.cursor.toNat + bytes.length ≤ nMax then s.cursor.toNat else 0
  let n := BitVec.ofNat 17 (min nMax (max s.n.toNat (at0 + bytes.length)))
  { s with
    cursor := BitVec.ofNat 17 at0
    trunc := false
    n := n
    buf := s.buf.writeAll at0 bytes
    bufLen := n
    hostChanged := false }

/-- The bytes of the instruction whose bits are `w` in the opcode table's numbering: as many as its length, the opcode byte
first (30_encoding.md R70). -/
def instrBytes (nbits w : Nat) : List Byte :=
  let bytes := tableBytes nbits w
  match bytes with
  | [] => []
  | op :: _ => bytes.take (rom op).len.toNat

end Sys2Proof.Machine
end

