-- ==== Sys2Proof/Machine/HostPort.lean ====
section
/-! DEFINITION. What the host does to the hardware (spec/10_state.md R30, 70_reset_and_hazards.md R430 to R436): it loads the buffer,
presents `buf_len` and raises `start`. None of these is a step of the walker. How a program comes to run: log entry 5. -/

namespace Sys2Proof.Machine

/-- The host writes one byte of the buffer. A write that changes a byte of B while the run is not done breaks the run
(70_reset_and_hazards.md R434, R436): the refusal mark is set. DEDUCED (log entry 6); safe. -/
def State.hostWrite (s : State) (a : Nat) (b : Byte) : State :=
  { s with
    buf := s.buf.write a b
    hostChanged := s.hostChanged || (!s.done && decide (a < s.n.toNat) && decide (s.buf.read a ≠ b)) }

/-- The host loads bytes into the buffer from an offset upward (70 R433, duty 1). -/
def State.hostLoad (s : State) : Nat → List Byte → State
  | _, [] => s
  | a, b :: bs => State.hostLoad (s.hostWrite a b) (a + 1) bs

/-- The host presents a buffer length on `buf_len` (70 R433, duty 2). A change of N while the run is not done breaks the run
(R436). DEDUCED (log entry 6); safe. -/
def State.hostSetLen (s : State) (len : Offset) : State :=
  { s with bufLen := len, hostChanged := s.hostChanged || (!s.done && decide (len ≠ s.n)) }

/-- The host raises `start`: `cursor <- 0`, `trunc <- 0`, `out <- []`, `N` sampled from `buf_len`; a run under way is abandoned
(70_reset_and_hazards.md R430). The new run is not broken yet, so the refusal mark is clear (log entry 6). -/
def State.raiseStart (s : State) : State :=
  { s with cursor := 0, trunc := false, out := [], n := s.bufLen, hostChanged := false }

/-- The host's duties before a run, in their order (70 R433): the whole buffer, then its length, then `start`. A buffer of more
bytes than `buf_len` can count is presented as the largest length, which is above `N_MAX` and so refused. DESIGN CHOICE
(log entry 14); safe. -/
def State.launch (s : State) (bytes : List Byte) : State :=
  ((s.hostLoad 0 bytes).hostSetLen (BitVec.ofNat 17 (min bytes.length 131071))).raiseStart

/-- Whether the model refuses the run the state is in (70_reset_and_hazards.md R436, 92_eei_decisions.md D14, D15): the host has
changed B or N during the run, or presented `N > N_MAX`, or `buf_len` no longer holds N while the run is not done. -/
def State.runRefusal (s : State) : Option Refusal :=
  if s.hostChanged then some .hostChangedRun
  else if nMax < s.n.toNat then some .bufferTooLarge
  else if !s.done && decide (s.bufLen ≠ s.n) then some .hostChangedRun
  else none

end Sys2Proof.Machine
end

