-- ==== Sys2Proof/Machine/Step.lean ====
section
/-! DEFINITION. One step of the hardware: the walker step of spec/40_decoder_walker.md R100, refused in a run the host has broken
(70_reset_and_hazards.md R436). -/

namespace Sys2Proof.Machine

/-- One step. A broken run has no step (70 R436); the walker in its final state takes none and holds its state (10_state.md R25,
60_exceptions.md R412; log entry 4); otherwise the instruction at the cursor is fetched and its meaning runs. -/
def step (s : State) : Host.Outcome State Fault Refusal :=
  match s.runRefusal with
  | some r => .refused r
  | none =>
    if s.done then .next s
    else
      match s.fetch with
      | none => .refused .readPastBuffer
      | some i => exec i s

/-- The state with an instruction placed where the next step fetches it (log entry 5). -/
def State.withFetchWord (s : State) (nbits w : Nat) : State := s.placeInstr (instrBytes nbits w)

end Sys2Proof.Machine
end

