-- ==== Sys2Proof/Machine/Render.lean ====
section
/-! DEFINITION. The text of a record (spec/40_decoder_walker.md R110 to R114): the reference shape, field by field. -/

namespace Sys2Proof.Machine

/-- The low `w` hexadecimal digits of a number, lower case, the highest first. -/
def hexDigits : Nat → Nat → List Char
  | 0, _ => []
  | w + 1, n => hexDigits w (n / 16) ++ [Nat.digitChar (n % 16)]

/-- A number in lower-case hexadecimal, zero-padded to at least `w` digits (40_decoder_walker.md R113). -/
def hexText (w n : Nat) : String := String.ofList (hexDigits (max w (Nat.log2 n / 4 + 1)) n)

/-- `<hex-offset>` (R113). -/
def offsetText (off : Offset) : String := hexText offsetHexDigits off.toNat

/-- An operand byte, 2 lower-case hex digits (R113). -/
def byteText (b : Byte) : String := hexText 2 b.toNat

/-- The fields of a rendered record. A complete record: offset, addressing tag, operand bytes low first, mnemonic (R110, R111,
R112). A truncated record is what `TRUNC_MARK_TEXT` makes of the bytes it holds; no missing byte is supplied (R114). -/
def Record.fields (r : Record) : List String :=
  if r.trunc then [Config.truncMarkText r.off ⟨r.mnem, r.mode, r.len⟩ r.ops]
  else [offsetText r.off, Config.modeTagText r.mode] ++ r.ops.map byteText ++ [r.mnem.text]

/-- The rendered line: the fields with two spaces between them (R110). Whitespace is not compared (93_implementation_defined.md
U11; log entry 16). -/
def Record.line (r : Record) : String := String.intercalate "  " r.fields

end Sys2Proof.Machine
end

