-- ==== Sys2Proof/Machine/Ports.lean ====
section
/-! DEFINITION. The signals of the interface (spec/10_state.md R30) and the outcome classes (60_exceptions.md R401), as functions of
the state: nothing here is stored.

The spec gives a run the host has broken, or one with `N > N_MAX`, no meaning and no step (70_reset_and_hazards.md R436), and so no
value of a signal in it. DESIGN CHOICE (log entry 17): the signals here do not ask whether `step` refuses the run; unsafe for a
claim about a signal in such a run. -/

namespace Sys2Proof.Machine

/-- The opcode byte presented to the ROM in the step, `rom_addr`; none where done holds. In a run `step` refuses, which has no step
(70 R436), it is still the byte at the cursor in the buffer as it stands: DESIGN CHOICE (log entry 17); unsafe there. -/
def romAddr (s : State) : Option Byte := if s.done then none else bufRead s s.cursor.toNat

/-- The ROM word read in the step, `rom_word` (30_encoding.md R77, R79); in a refused run as `romAddr` (log entry 17). -/
def romWordPort (s : State) : Option RomWord := (romAddr s).map romWord

/-- The offsets driven on `buf_addr` in the step, in the order of the reads: the opcode's, then the operand bytes' (20_memory.md
R53); no offset where done holds. In a run `step` refuses, which has no step and no reads (70 R436), it still lists the offsets of
the instruction at the cursor: DESIGN CHOICE (log entry 17); unsafe there. -/
def bufAddrs (s : State) : List Nat :=
  match romAddr s with
  | none => []
  | some op => s.cursor.toNat :: laneOffsets s.cursor.toNat (nops (rom op) s)

/-- The bytes `buf_data` answers to those reads, in the same step (20_memory.md R64). In a run `step` refuses these are bytes of the
buffer as the host has changed it: DESIGN CHOICE (log entry 17); unsafe there. -/
def bufData (s : State) : List (Option Byte) := (bufAddrs s).map (bufRead s)

/-- The record on the `rec_*` outputs: the last one delivered since the reset. DEDUCED (log entry 12);
safe for the walker. In a refused run as the state holds it (log entry 17). -/
def recPort (s : State) : Option Record := s.out.getLast?

/-- `rec_valid`: 0 until the first step (10_state.md R34). -/
def recValid (s : State) : Bool := (recPort s).isSome

/-- `rec_nops`, the number of operand bytes of a record (10_state.md R27). -/
def Record.nops (r : Record) : Nat := r.ops.length

/-- Record lane `i`, `rec_op0` or `rec_op1`: no value when `i >= nops` (10_state.md R29, 40_decoder_walker.md R101). -/
def Record.lane (r : Record) (i : Nat) : Option Byte := r.ops[i]?

/-- The 16-bit value a consumer forms from two operand bytes, low byte first (20_memory.md R56, 30_encoding.md R73). The hardware
does not form it. -/
def Record.operand16 (r : Record) : Option Nat :=
  match r.ops with
  | [lo, hi] => some (lo.toNat + 256 * hi.toNat)
  | _ => none

/-- The output `done`; in a refused run as its formula gives it (log entry 17). -/
def doneOut (s : State) : Bool := s.done

/-- The output `trunc`; in a refused run as the state holds it (log entry 17). -/
def truncOut (s : State) : Bool := s.trunc

/-- The outcome classes the document names in place of exceptions (60_exceptions.md R401). -/
inductive OutcomeClass where
  | complete | unknownOpcode | truncatedInstruction
  deriving DecidableEq, Repr

/-- The code of an outcome class (R401). -/
def OutcomeClass.code : OutcomeClass → Nat
  | .complete => 0
  | .unknownOpcode => 1
  | .truncatedInstruction => 2

/-- The outcome class of the step that emitted a record (R401, R402): the truncation decides first. -/
def Record.outcome (r : Record) : OutcomeClass :=
  if r.trunc then .truncatedInstruction
  else if r.mnem = .unk then .unknownOpcode
  else .complete

end Sys2Proof.Machine
end

