-- ==== Sys2Proof/Safety.lean ====
section
/-! DEFINITION. What counts as a good state and a right output, in the terms the statements use: the record the buffer holds at an
offset, the records of a walk, and the invariant of a run. -/

namespace Sys2Proof.Machine

/-- The record of the instruction at an offset, as spec/40_decoder_walker.md R100 defines it from the buffer alone; none where
the offset is not in the buffer. -/
def recordAt (s : State) (off : Nat) : Option Record :=
  if off < s.n.toNat then
    let d := rom (s.buf.read off)
    let avail := s.n.toNat - off - 1
    let k := min (d.len.toNat - 1) avail
    some {
      off := BitVec.ofNat 17 off
      mnem := d.mnem
      mode := d.mode
      len := d.len
      ops := (List.range k).map fun i => s.buf.read (off + 1 + i)
      trunc := decide (s.n.toNat < off + d.len.toNat) }
  else none

/-- The records of a walk from an offset, at most `fuel` of them: the document's loop (00_scope.md R1, 40_decoder_walker.md R102).
A walk over N bytes has at most N records (R104), so N is fuel enough. -/
def recordsFrom (s : State) : Nat → Nat → List Record
  | 0, _ => []
  | fuel + 1, off =>
    match recordAt s off with
    | none => []
    | some r => if r.trunc then [r] else r :: recordsFrom s fuel (off + r.len.toNat)

/-- The records of the run over the state's buffer, from offset 0 (40 R102, 70 R431). -/
def recordsOfRun (s : State) : List Record := recordsFrom s s.n.toNat 0

/-- Where a gapless sequence of records that starts at an offset ends: the next offset, or the last record's own offset and `true`
if that record is truncated; none if an offset is not where the record before it ends, or a record follows a truncated one
(40_decoder_walker.md R103, R106). -/
def endOfRecords : Nat → List Record → Option (Nat × Bool)
  | off, [] => some (off, false)
  | off, r :: rs =>
    if r.off.toNat = off then
      if r.trunc then (if rs = [] then some (off, true) else none)
      else endOfRecords (off + r.len.toNat) rs
    else none

/-- The invariant of a run: the buffer's list is canonical, the cursor is within the buffer (10_state.md R23), the records are
gapless from offset 0 and end at the cursor, truncated exactly when `trunc` is set (40_decoder_walker.md R103, R105, R106), and
each record is the one the buffer holds at its offset (20_memory.md R60 b). -/
def State.Inv (s : State) : Prop :=
  s.buf.wf = true ∧
  s.cursor.toNat ≤ s.n.toNat ∧
  endOfRecords 0 s.out = some (s.cursor.toNat, s.trunc) ∧
  ∀ r ∈ s.out, recordAt s r.off.toNat = some r

/-- The bytes of instructions laid out one after another, each with its operand bytes (30_encoding.md R70). -/
def bytesOf : List (Instr × List Byte) → List Byte
  | [] => []
  | (i, ops) :: l => encodeWith i ops ++ bytesOf l

/-- The records that instructions laid out one after another from an offset stand for (40_decoder_walker.md R103). -/
def listing : Nat → List (Instr × List Byte) → List Record
  | _, [] => []
  | off, (i, ops) :: l =>
    let d := rom i.opcode
    { off := BitVec.ofNat 17 off, mnem := d.mnem, mode := d.mode, len := d.len, ops := ops, trunc := false } ::
      listing (off + d.len.toNat) l

/-- The lengths of some records, summed. -/
def lengthSum (rs : List Record) : Nat := (rs.map fun r => r.len.toNat).sum

/-- A run the model gives a meaning to: the host keeps its duties and `N <= N_MAX` (70_reset_and_hazards.md R433, R434, R436). -/
def State.Unbroken (s : State) : Prop :=
  s.hostChanged = false ∧ s.n.toNat ≤ nMax ∧ s.bufLen = s.n

end Sys2Proof.Machine
end

