-- ==== Sys2Proof/Certificates/Slice0/Obligations.lean ====
section
/-! DEFINITION. The statements for the provers. -/

open Sys2Proof Sys2Proof.Machine

namespace Sys2Proof.Rules

/-- `ops` are the bytes of the buffer right after the opcode at the cursor. -/
abbrev OperandsAt (s : State) (ops : List Byte) : Prop :=
  ∀ k, k < ops.length → bufRead s (s.cursor.toNat + 1 + k) = ops[k]?

/-- The walker may step, the instruction at the cursor with the descriptor `d` lies in the buffer, and `ops` are its operand
bytes. -/
abbrev WholeInstr (d : Descriptor) (s : State) (ops : List Byte) : Prop :=
  s.trunc = false ∧ s.cursor.toNat + d.len.toNat ≤ s.n.toNat ∧ ops.length + 1 = d.len.toNat ∧ OperandsAt s ops

/-- The walker may step, the buffer ends within the instruction at the cursor, and `ops` are the bytes that are there after its
opcode. -/
abbrev CutInstr (d : Descriptor) (s : State) (ops : List Byte) : Prop :=
  s.trunc = false ∧ s.cursor.toNat < s.n.toNat ∧ s.n.toNat < s.cursor.toNat + d.len.toNat ∧
    s.cursor.toNat + 1 + ops.length = s.n.toNat ∧ OperandsAt s ops

/-- The second branch of spec/40_decoder_walker.md R100: the complete record, and `cursor <- off + len`; nothing else. -/
def emitWhole (d : Descriptor) (s : State) (ops : List Byte) : State :=
  { s with
    cursor := BitVec.ofNat 17 (s.cursor.toNat + d.len.toNat)
    out := s.out ++ [⟨s.cursor, d.mnem, d.mode, d.len, ops, false⟩] }

/-- The first branch of R100: the truncated record, and `trunc <- 1`; nothing else. -/
def emitCut (d : Descriptor) (s : State) (ops : List Byte) : State :=
  { s with
    trunc := true
    out := s.out ++ [⟨s.cursor, d.mnem, d.mode, d.len, ops, true⟩] }

/-- What an opcode's own rule says (R200 to R350, R351): the byte selects the instruction and the instruction's opcode is the byte;
the ROM holds the descriptor and the word; executing the instruction is the one branch or the other of R100 with that descriptor;
wherever the walker may step one of the two holds, the truncated one never for a length-1 instruction; and it never stops. -/
def OpcodeRule (op : Byte) (i : Instr) (d : Descriptor) (word : RomWord) : Prop :=
  decodeOpcode op = i ∧ i.opcode = op ∧ rom op = d ∧ romWord op = word ∧ word = d.toWord ∧
  (∀ (s : State) (ops : List Byte), WholeInstr d s ops → exec i s = .next (emitWhole d s ops)) ∧
  (∀ (s : State) (ops : List Byte), CutInstr d s ops → exec i s = .next (emitCut d s ops)) ∧
  (∀ s : State, s.trunc = false → s.cursor.toNat < s.n.toNat → ∃ ops, WholeInstr d s ops ∨ d.len ≠ .one ∧ CutInstr d s ops) ∧
  ∀ s : State, ∃ t, exec i s = .next t

end Sys2Proof.Rules

open Sys2Proof.Rules

/-- Decoding an encoded well-formed instruction gives it back, with its operand bytes untouched (30_encoding.md section 1,
Instruction formats, 30_encoding.md section 4, Decoding properties). That an instruction is its opcode byte alone is log
entry 8. -/
def Obligations.DecodeOfEncodedInstruction : Prop :=
  ∀ (i : Instr) (ops : List Byte), i.wellFormed = true → decode (encodeWith i ops) = .ok (i, ops)

/-- Every opcode byte decodes to a well-formed instruction whose opcode is that byte (30_encoding.md section 4, Decoding
properties). That the undefined bytes share a constructor that holds the byte is log entry 8. -/
def Obligations.EncodeOfDecodedByte : Prop :=
  ∀ op : Byte, (decodeOpcode op).wellFormed = true ∧ (decodeOpcode op).opcode = op

/-- A few words written out bit by bit from the spec decode to the instructions they stand for (41_load_store.md LDA,
42_transfer_stack.md TAX, 43_logic_arith_compare.md ADC, 44_incdec_shift.md ASL, 45_control.md JMP, 46_flags_nop.md SEC,
47_undefined.md). -/
def Obligations.WordsDecodeRight : Prop :=
  decodeTableWord 8 0b10101001 = some .ldaImm ∧ decodeTableWord 8 0b10101010 = some .taxImp ∧
  decodeTableWord 8 0b01101001 = some .adcImm ∧ decodeTableWord 8 0b00001010 = some .aslAcc ∧
  decodeTableWord 8 0b01001100 = some .jmpAbs ∧ decodeTableWord 8 0b01101100 = some .jmpInd ∧
  decodeTableWord 8 0b00111000 = some .secImp ∧ decodeTableWord 8 0b11111111 = some (.unk 0xFF)

/-- Each 12-bit ROM word holds the descriptor of its opcode byte, field by field (R77). -/
def Obligations.RomWordHoldsDescriptor : Prop :=
  (∀ op : Byte,
    (romWord op).extractLsb' 6 6 = (rom op).mnem.code ∧
    (romWord op).extractLsb' 2 4 = (rom op).mode.code ∧
    (romWord op).extractLsb' 0 2 = (rom op).len.code ∧
    Descriptor.ofWord (romWord op) = some (rom op)) ∧
  romWord 0xA9 = 0x74A ∧ rom 0xA9 = ⟨.lda, .immediate, .two⟩ ∧ Mnemonic.code .lda = 29 ∧ Mode.code .immediate = 2

/-- The length of every ROM word is the length of its addressing mode (R72). -/
def Obligations.ModeFixesLength : Prop :=
  (∀ op : Byte, (rom op).len = lenOfMode (rom op).mode ∧ 1 ≤ (rom op).len.toNat ∧ (rom op).len.toNat ≤ 3) ∧
  (∀ m : Mode, (lenOfMode m).toNat =
    if m ∈ [.implied, .accumulator, .unknown] then 1
    else if m ∈ [.absolute, .absoluteX, .absoluteY, .indirect] then 3
    else 2)

/-- The codes of the mnemonics, the modes and the lengths (30_encoding.md section 2, The descriptor and its ROM word). -/
def Obligations.FieldCodes : Prop :=
  ([.adc, .and, .asl, .bcc, .bcs, .beq, .bit, .bmi, .bne, .bpl, .brk, .bvc, .bvs, .clc, .cld, .cli, .clv, .cmp, .cpx, .cpy,
    .dec, .dex, .dey, .eor, .inc, .inx, .iny, .jmp, .jsr, .lda, .ldx, .ldy, .lsr, .nop, .ora, .pha, .php, .pla, .plp, .rol,
    .ror, .rti, .rts, .sbc, .sec, .sed, .sei, .sta, .stx, .sty, .tax, .tay, .tsx, .txa, .txs, .tya, .unk] : List Mnemonic).map Mnemonic.code =
      (List.range 57).map (BitVec.ofNat 6) ∧
  ([.implied, .accumulator, .immediate, .zeroPage, .zeroPageX, .zeroPageY, .indexedIndirect, .indirectIndexed,
    .absolute, .absoluteX, .absoluteY, .relative, .unknown, .indirect] : List Mode).map Mode.code =
      (List.range 14).map (BitVec.ofNat 4) ∧
  ([.one, .two, .three] : List Len).map Len.code = [1, 2, 3] ∧
  (∀ c : Fin 64, 57 ≤ c.val → Mnemonic.ofCode (BitVec.ofFin c) = none) ∧
  (∀ c : Fin 16, 14 ≤ c.val → Mode.ofCode (BitVec.ofFin c) = none) ∧
  Len.ofCode 0 = none

/-- The counts of the ROM map: 151 documented bytes, 105 undefined, and how many of each mode (30_encoding.md section 3, The
ROM contents). -/
def Obligations.RomCounts : Prop :=
  let count := fun (p : Descriptor → Bool) => ((List.range 256).filter fun k => p (rom (BitVec.ofNat 8 k))).length
  count (fun d => d.mnem ≠ .unk) = 151 ∧ count (fun d => d.mnem = .unk) = 105 ∧
  ([.implied, .accumulator, .immediate, .zeroPage, .zeroPageX, .zeroPageY, .indexedIndirect, .indirectIndexed,
    .absolute, .absoluteX, .absoluteY, .relative, .unknown, .indirect] : List Mode).map (fun m => count fun d => d.mode = m) =
    [25, 4, 11, 21, 16, 2, 8, 8, 23, 15, 9, 8, 105, 1]

/-- Exactly the bytes of the undefined set hold the unknown descriptor (R80). -/
def Obligations.UndefinedBytesAreUnknown : Prop :=
  (∀ op : Byte, op ∈ undefinedOpcodes ↔ rom op = ⟨.unk, .unknown, .one⟩) ∧
  (∀ op : Byte, op ∈ undefinedOpcodes → romWord op = 0xE31) ∧
  undefinedOpcodes.length = 105 ∧ undefinedOpcodes.Nodup

/-- LDA, all eight forms: descriptor, ROM word and walker step (R200, R201, R202, R203, R204, R205, R206, R207). -/
def Obligations.LdaOpcodes : Prop :=
  OpcodeRule 0xA9 .ldaImm ⟨.lda, .immediate, .two⟩ 0x74A ∧
  OpcodeRule 0xA5 .ldaZp ⟨.lda, .zeroPage, .two⟩ 0x74E ∧
  OpcodeRule 0xB5 .ldaZpx ⟨.lda, .zeroPageX, .two⟩ 0x752 ∧
  OpcodeRule 0xAD .ldaAbs ⟨.lda, .absolute, .three⟩ 0x763 ∧
  OpcodeRule 0xBD .ldaAbx ⟨.lda, .absoluteX, .three⟩ 0x767 ∧
  OpcodeRule 0xB9 .ldaAby ⟨.lda, .absoluteY, .three⟩ 0x76B ∧
  OpcodeRule 0xA1 .ldaIzx ⟨.lda, .indexedIndirect, .two⟩ 0x75A ∧
  OpcodeRule 0xB1 .ldaIzy ⟨.lda, .indirectIndexed, .two⟩ 0x75E

/-- LDX and LDY, all forms: descriptor, ROM word and walker step (R208, R209, R210, R211, R212, R213, R214, R215, R216,
R217). -/
def Obligations.LdxLdyOpcodes : Prop :=
  OpcodeRule 0xA2 .ldxImm ⟨.ldx, .immediate, .two⟩ 0x78A ∧
  OpcodeRule 0xA6 .ldxZp ⟨.ldx, .zeroPage, .two⟩ 0x78E ∧
  OpcodeRule 0xB6 .ldxZpy ⟨.ldx, .zeroPageY, .two⟩ 0x796 ∧
  OpcodeRule 0xAE .ldxAbs ⟨.ldx, .absolute, .three⟩ 0x7A3 ∧
  OpcodeRule 0xBE .ldxAby ⟨.ldx, .absoluteY, .three⟩ 0x7AB ∧
  OpcodeRule 0xA0 .ldyImm ⟨.ldy, .immediate, .two⟩ 0x7CA ∧
  OpcodeRule 0xA4 .ldyZp ⟨.ldy, .zeroPage, .two⟩ 0x7CE ∧
  OpcodeRule 0xB4 .ldyZpx ⟨.ldy, .zeroPageX, .two⟩ 0x7D2 ∧
  OpcodeRule 0xAC .ldyAbs ⟨.ldy, .absolute, .three⟩ 0x7E3 ∧
  OpcodeRule 0xBC .ldyAbx ⟨.ldy, .absoluteX, .three⟩ 0x7E7

/-- STA, all seven forms: descriptor, ROM word and walker step (R218, R219, R220, R221, R222, R223, R224). -/
def Obligations.StoreOpcodes : Prop :=
  OpcodeRule 0x85 .staZp ⟨.sta, .zeroPage, .two⟩ 0xBCE ∧
  OpcodeRule 0x95 .staZpx ⟨.sta, .zeroPageX, .two⟩ 0xBD2 ∧
  OpcodeRule 0x8D .staAbs ⟨.sta, .absolute, .three⟩ 0xBE3 ∧
  OpcodeRule 0x9D .staAbx ⟨.sta, .absoluteX, .three⟩ 0xBE7 ∧
  OpcodeRule 0x99 .staAby ⟨.sta, .absoluteY, .three⟩ 0xBEB ∧
  OpcodeRule 0x81 .staIzx ⟨.sta, .indexedIndirect, .two⟩ 0xBDA ∧
  OpcodeRule 0x91 .staIzy ⟨.sta, .indirectIndexed, .two⟩ 0xBDE

/-- STX and STY, all forms: descriptor, ROM word and walker step (R225, R226, R227, R228, R229, R230). -/
def Obligations.StxStyOpcodes : Prop :=
  OpcodeRule 0x86 .stxZp ⟨.stx, .zeroPage, .two⟩ 0xC0E ∧
  OpcodeRule 0x96 .stxZpy ⟨.stx, .zeroPageY, .two⟩ 0xC16 ∧
  OpcodeRule 0x8E .stxAbs ⟨.stx, .absolute, .three⟩ 0xC23 ∧
  OpcodeRule 0x84 .styZp ⟨.sty, .zeroPage, .two⟩ 0xC4E ∧
  OpcodeRule 0x94 .styZpx ⟨.sty, .zeroPageX, .two⟩ 0xC52 ∧
  OpcodeRule 0x8C .styAbs ⟨.sty, .absolute, .three⟩ 0xC63

/-- The register transfers TAX, TAY, TSX, TXA, TXS, TYA: descriptor, ROM word and walker step (R231, R232, R233, R234, R235,
R236). -/
def Obligations.TransferOpcodes : Prop :=
  OpcodeRule 0xAA .taxImp ⟨.tax, .implied, .one⟩ 0xC81 ∧
  OpcodeRule 0xA8 .tayImp ⟨.tay, .implied, .one⟩ 0xCC1 ∧
  OpcodeRule 0xBA .tsxImp ⟨.tsx, .implied, .one⟩ 0xD01 ∧
  OpcodeRule 0x8A .txaImp ⟨.txa, .implied, .one⟩ 0xD41 ∧
  OpcodeRule 0x9A .txsImp ⟨.txs, .implied, .one⟩ 0xD81 ∧
  OpcodeRule 0x98 .tyaImp ⟨.tya, .implied, .one⟩ 0xDC1

/-- The stack instructions PHA, PHP, PLA, PLP: descriptor, ROM word and walker step (R237, R238, R239, R240). -/
def Obligations.StackOpcodes : Prop :=
  OpcodeRule 0x48 .phaImp ⟨.pha, .implied, .one⟩ 0x8C1 ∧
  OpcodeRule 0x08 .phpImp ⟨.php, .implied, .one⟩ 0x901 ∧
  OpcodeRule 0x68 .plaImp ⟨.pla, .implied, .one⟩ 0x941 ∧
  OpcodeRule 0x28 .plpImp ⟨.plp, .implied, .one⟩ 0x981

/-- AND and BIT, all forms: descriptor, ROM word and walker step (R241, R242, R243, R244, R245, R246, R247, R248, R265,
R266). -/
def Obligations.AndBitOpcodes : Prop :=
  OpcodeRule 0x29 .andImm ⟨.and, .immediate, .two⟩ 0x04A ∧
  OpcodeRule 0x25 .andZp ⟨.and, .zeroPage, .two⟩ 0x04E ∧
  OpcodeRule 0x35 .andZpx ⟨.and, .zeroPageX, .two⟩ 0x052 ∧
  OpcodeRule 0x2D .andAbs ⟨.and, .absolute, .three⟩ 0x063 ∧
  OpcodeRule 0x3D .andAbx ⟨.and, .absoluteX, .three⟩ 0x067 ∧
  OpcodeRule 0x39 .andAby ⟨.and, .absoluteY, .three⟩ 0x06B ∧
  OpcodeRule 0x21 .andIzx ⟨.and, .indexedIndirect, .two⟩ 0x05A ∧
  OpcodeRule 0x31 .andIzy ⟨.and, .indirectIndexed, .two⟩ 0x05E ∧
  OpcodeRule 0x24 .bitZp ⟨.bit, .zeroPage, .two⟩ 0x18E ∧
  OpcodeRule 0x2C .bitAbs ⟨.bit, .absolute, .three⟩ 0x1A3

/-- EOR, all eight forms: descriptor, ROM word and walker step (R249, R250, R251, R252, R253, R254, R255, R256). -/
def Obligations.EorOpcodes : Prop :=
  OpcodeRule 0x49 .eorImm ⟨.eor, .immediate, .two⟩ 0x5CA ∧
  OpcodeRule 0x45 .eorZp ⟨.eor, .zeroPage, .two⟩ 0x5CE ∧
  OpcodeRule 0x55 .eorZpx ⟨.eor, .zeroPageX, .two⟩ 0x5D2 ∧
  OpcodeRule 0x4D .eorAbs ⟨.eor, .absolute, .three⟩ 0x5E3 ∧
  OpcodeRule 0x5D .eorAbx ⟨.eor, .absoluteX, .three⟩ 0x5E7 ∧
  OpcodeRule 0x59 .eorAby ⟨.eor, .absoluteY, .three⟩ 0x5EB ∧
  OpcodeRule 0x41 .eorIzx ⟨.eor, .indexedIndirect, .two⟩ 0x5DA ∧
  OpcodeRule 0x51 .eorIzy ⟨.eor, .indirectIndexed, .two⟩ 0x5DE

/-- ORA, all eight forms: descriptor, ROM word and walker step (R257, R258, R259, R260, R261, R262, R263, R264). -/
def Obligations.OraOpcodes : Prop :=
  OpcodeRule 0x09 .oraImm ⟨.ora, .immediate, .two⟩ 0x88A ∧
  OpcodeRule 0x05 .oraZp ⟨.ora, .zeroPage, .two⟩ 0x88E ∧
  OpcodeRule 0x15 .oraZpx ⟨.ora, .zeroPageX, .two⟩ 0x892 ∧
  OpcodeRule 0x0D .oraAbs ⟨.ora, .absolute, .three⟩ 0x8A3 ∧
  OpcodeRule 0x1D .oraAbx ⟨.ora, .absoluteX, .three⟩ 0x8A7 ∧
  OpcodeRule 0x19 .oraAby ⟨.ora, .absoluteY, .three⟩ 0x8AB ∧
  OpcodeRule 0x01 .oraIzx ⟨.ora, .indexedIndirect, .two⟩ 0x89A ∧
  OpcodeRule 0x11 .oraIzy ⟨.ora, .indirectIndexed, .two⟩ 0x89E

/-- ADC, all eight forms: descriptor, ROM word and walker step (R267, R268, R269, R270, R271, R272, R273, R274). -/
def Obligations.AdcOpcodes : Prop :=
  OpcodeRule 0x69 .adcImm ⟨.adc, .immediate, .two⟩ 0x00A ∧
  OpcodeRule 0x65 .adcZp ⟨.adc, .zeroPage, .two⟩ 0x00E ∧
  OpcodeRule 0x75 .adcZpx ⟨.adc, .zeroPageX, .two⟩ 0x012 ∧
  OpcodeRule 0x6D .adcAbs ⟨.adc, .absolute, .three⟩ 0x023 ∧
  OpcodeRule 0x7D .adcAbx ⟨.adc, .absoluteX, .three⟩ 0x027 ∧
  OpcodeRule 0x79 .adcAby ⟨.adc, .absoluteY, .three⟩ 0x02B ∧
  OpcodeRule 0x61 .adcIzx ⟨.adc, .indexedIndirect, .two⟩ 0x01A ∧
  OpcodeRule 0x71 .adcIzy ⟨.adc, .indirectIndexed, .two⟩ 0x01E

/-- SBC, all eight forms: descriptor, ROM word and walker step (R275, R276, R277, R278, R279, R280, R281, R282). -/
def Obligations.SbcOpcodes : Prop :=
  OpcodeRule 0xE9 .sbcImm ⟨.sbc, .immediate, .two⟩ 0xACA ∧
  OpcodeRule 0xE5 .sbcZp ⟨.sbc, .zeroPage, .two⟩ 0xACE ∧
  OpcodeRule 0xF5 .sbcZpx ⟨.sbc, .zeroPageX, .two⟩ 0xAD2 ∧
  OpcodeRule 0xED .sbcAbs ⟨.sbc, .absolute, .three⟩ 0xAE3 ∧
  OpcodeRule 0xFD .sbcAbx ⟨.sbc, .absoluteX, .three⟩ 0xAE7 ∧
  OpcodeRule 0xF9 .sbcAby ⟨.sbc, .absoluteY, .three⟩ 0xAEB ∧
  OpcodeRule 0xE1 .sbcIzx ⟨.sbc, .indexedIndirect, .two⟩ 0xADA ∧
  OpcodeRule 0xF1 .sbcIzy ⟨.sbc, .indirectIndexed, .two⟩ 0xADE

/-- CMP, all eight forms: descriptor, ROM word and walker step (R283, R284, R285, R286, R287, R288, R289, R290). -/
def Obligations.CmpOpcodes : Prop :=
  OpcodeRule 0xC9 .cmpImm ⟨.cmp, .immediate, .two⟩ 0x44A ∧
  OpcodeRule 0xC5 .cmpZp ⟨.cmp, .zeroPage, .two⟩ 0x44E ∧
  OpcodeRule 0xD5 .cmpZpx ⟨.cmp, .zeroPageX, .two⟩ 0x452 ∧
  OpcodeRule 0xCD .cmpAbs ⟨.cmp, .absolute, .three⟩ 0x463 ∧
  OpcodeRule 0xDD .cmpAbx ⟨.cmp, .absoluteX, .three⟩ 0x467 ∧
  OpcodeRule 0xD9 .cmpAby ⟨.cmp, .absoluteY, .three⟩ 0x46B ∧
  OpcodeRule 0xC1 .cmpIzx ⟨.cmp, .indexedIndirect, .two⟩ 0x45A ∧
  OpcodeRule 0xD1 .cmpIzy ⟨.cmp, .indirectIndexed, .two⟩ 0x45E

/-- CPX and CPY, all forms: descriptor, ROM word and walker step (R291, R292, R293, R294, R295, R296). -/
def Obligations.CpxCpyOpcodes : Prop :=
  OpcodeRule 0xE0 .cpxImm ⟨.cpx, .immediate, .two⟩ 0x48A ∧
  OpcodeRule 0xE4 .cpxZp ⟨.cpx, .zeroPage, .two⟩ 0x48E ∧
  OpcodeRule 0xEC .cpxAbs ⟨.cpx, .absolute, .three⟩ 0x4A3 ∧
  OpcodeRule 0xC0 .cpyImm ⟨.cpy, .immediate, .two⟩ 0x4CA ∧
  OpcodeRule 0xC4 .cpyZp ⟨.cpy, .zeroPage, .two⟩ 0x4CE ∧
  OpcodeRule 0xCC .cpyAbs ⟨.cpy, .absolute, .three⟩ 0x4E3

/-- INC, INX and INY: descriptor, ROM word and walker step (R297, R298, R299, R300, R301, R302). -/
def Obligations.IncrementOpcodes : Prop :=
  OpcodeRule 0xE6 .incZp ⟨.inc, .zeroPage, .two⟩ 0x60E ∧
  OpcodeRule 0xF6 .incZpx ⟨.inc, .zeroPageX, .two⟩ 0x612 ∧
  OpcodeRule 0xEE .incAbs ⟨.inc, .absolute, .three⟩ 0x623 ∧
  OpcodeRule 0xFE .incAbx ⟨.inc, .absoluteX, .three⟩ 0x627 ∧
  OpcodeRule 0xE8 .inxImp ⟨.inx, .implied, .one⟩ 0x641 ∧
  OpcodeRule 0xC8 .inyImp ⟨.iny, .implied, .one⟩ 0x681

/-- DEC, DEX and DEY: descriptor, ROM word and walker step (R303, R304, R305, R306, R307, R308). -/
def Obligations.DecrementOpcodes : Prop :=
  OpcodeRule 0xC6 .decZp ⟨.dec, .zeroPage, .two⟩ 0x50E ∧
  OpcodeRule 0xD6 .decZpx ⟨.dec, .zeroPageX, .two⟩ 0x512 ∧
  OpcodeRule 0xCE .decAbs ⟨.dec, .absolute, .three⟩ 0x523 ∧
  OpcodeRule 0xDE .decAbx ⟨.dec, .absoluteX, .three⟩ 0x527 ∧
  OpcodeRule 0xCA .dexImp ⟨.dex, .implied, .one⟩ 0x541 ∧
  OpcodeRule 0x88 .deyImp ⟨.dey, .implied, .one⟩ 0x581

/-- ASL and LSR, the accumulator forms among them: descriptor, ROM word and walker step (R309, R310, R311, R312, R313, R314,
R315, R316, R317, R318). -/
def Obligations.ShiftOpcodes : Prop :=
  OpcodeRule 0x06 .aslZp ⟨.asl, .zeroPage, .two⟩ 0x08E ∧
  OpcodeRule 0x16 .aslZpx ⟨.asl, .zeroPageX, .two⟩ 0x092 ∧
  OpcodeRule 0x0E .aslAbs ⟨.asl, .absolute, .three⟩ 0x0A3 ∧
  OpcodeRule 0x1E .aslAbx ⟨.asl, .absoluteX, .three⟩ 0x0A7 ∧
  OpcodeRule 0x0A .aslAcc ⟨.asl, .accumulator, .one⟩ 0x085 ∧
  OpcodeRule 0x46 .lsrZp ⟨.lsr, .zeroPage, .two⟩ 0x80E ∧
  OpcodeRule 0x56 .lsrZpx ⟨.lsr, .zeroPageX, .two⟩ 0x812 ∧
  OpcodeRule 0x4E .lsrAbs ⟨.lsr, .absolute, .three⟩ 0x823 ∧
  OpcodeRule 0x5E .lsrAbx ⟨.lsr, .absoluteX, .three⟩ 0x827 ∧
  OpcodeRule 0x4A .lsrAcc ⟨.lsr, .accumulator, .one⟩ 0x805

/-- ROL and ROR, the accumulator forms among them: descriptor, ROM word and walker step (R319, R320, R321, R322, R323, R324,
R325, R326, R327, R328). -/
def Obligations.RotateOpcodes : Prop :=
  OpcodeRule 0x26 .rolZp ⟨.rol, .zeroPage, .two⟩ 0x9CE ∧
  OpcodeRule 0x36 .rolZpx ⟨.rol, .zeroPageX, .two⟩ 0x9D2 ∧
  OpcodeRule 0x2E .rolAbs ⟨.rol, .absolute, .three⟩ 0x9E3 ∧
  OpcodeRule 0x3E .rolAbx ⟨.rol, .absoluteX, .three⟩ 0x9E7 ∧
  OpcodeRule 0x2A .rolAcc ⟨.rol, .accumulator, .one⟩ 0x9C5 ∧
  OpcodeRule 0x66 .rorZp ⟨.ror, .zeroPage, .two⟩ 0xA0E ∧
  OpcodeRule 0x76 .rorZpx ⟨.ror, .zeroPageX, .two⟩ 0xA12 ∧
  OpcodeRule 0x6E .rorAbs ⟨.ror, .absolute, .three⟩ 0xA23 ∧
  OpcodeRule 0x7E .rorAbx ⟨.ror, .absoluteX, .three⟩ 0xA27 ∧
  OpcodeRule 0x6A .rorAcc ⟨.ror, .accumulator, .one⟩ 0xA05

/-- JMP, JSR, RTS, BRK and RTI: descriptor, ROM word, and a walker step that follows no target (R329, R330, R331, R332, R333,
R334). -/
def Obligations.JumpOpcodes : Prop :=
  OpcodeRule 0x4C .jmpAbs ⟨.jmp, .absolute, .three⟩ 0x6E3 ∧
  OpcodeRule 0x6C .jmpInd ⟨.jmp, .indirect, .three⟩ 0x6F7 ∧
  OpcodeRule 0x20 .jsrAbs ⟨.jsr, .absolute, .three⟩ 0x723 ∧
  OpcodeRule 0x60 .rtsImp ⟨.rts, .implied, .one⟩ 0xA81 ∧
  OpcodeRule 0x00 .brkImp ⟨.brk, .implied, .one⟩ 0x281 ∧
  OpcodeRule 0x40 .rtiImp ⟨.rti, .implied, .one⟩ 0xA41 ∧
  Mode.code .indirect = 13

/-- The eight branches: descriptor, ROM word, and a walker step that follows no target (R335, R336, R337, R338, R339, R340,
R341, R342). -/
def Obligations.BranchOpcodes : Prop :=
  OpcodeRule 0x90 .bccRel ⟨.bcc, .relative, .two⟩ 0x0EE ∧
  OpcodeRule 0xB0 .bcsRel ⟨.bcs, .relative, .two⟩ 0x12E ∧
  OpcodeRule 0xF0 .beqRel ⟨.beq, .relative, .two⟩ 0x16E ∧
  OpcodeRule 0x30 .bmiRel ⟨.bmi, .relative, .two⟩ 0x1EE ∧
  OpcodeRule 0xD0 .bneRel ⟨.bne, .relative, .two⟩ 0x22E ∧
  OpcodeRule 0x10 .bplRel ⟨.bpl, .relative, .two⟩ 0x26E ∧
  OpcodeRule 0x50 .bvcRel ⟨.bvc, .relative, .two⟩ 0x2EE ∧
  OpcodeRule 0x70 .bvsRel ⟨.bvs, .relative, .two⟩ 0x32E

/-- The flag instructions and NOP: descriptor, ROM word and walker step (R343, R344, R345, R346, R347, R348, R349, R350). -/
def Obligations.FlagOpcodes : Prop :=
  OpcodeRule 0x18 .clcImp ⟨.clc, .implied, .one⟩ 0x341 ∧
  OpcodeRule 0xD8 .cldImp ⟨.cld, .implied, .one⟩ 0x381 ∧
  OpcodeRule 0x58 .cliImp ⟨.cli, .implied, .one⟩ 0x3C1 ∧
  OpcodeRule 0xB8 .clvImp ⟨.clv, .implied, .one⟩ 0x401 ∧
  OpcodeRule 0x38 .secImp ⟨.sec, .implied, .one⟩ 0xB01 ∧
  OpcodeRule 0xF8 .sedImp ⟨.sed, .implied, .one⟩ 0xB41 ∧
  OpcodeRule 0x78 .seiImp ⟨.sei, .implied, .one⟩ 0xB81 ∧
  OpcodeRule 0xEA .nopImp ⟨.nop, .implied, .one⟩ 0x841

/-- Each of the 105 undefined bytes: the unknown descriptor, word 0xE31, and a walker step that is never truncated (R351). -/
def Obligations.UndefinedOpcodeBytes : Prop :=
  undefinedOpcodes.length = 105 ∧
  ∀ u : Byte, u ∈ undefinedOpcodes →
    OpcodeRule u (.unk u) ⟨.unk, .unknown, .one⟩ 0xE31 ∧
    ∀ s : State, s.trunc = false → s.cursor.toNat < s.n.toNat →
      exec (.unk u) s = .next { s with
        cursor := BitVec.ofNat 17 (s.cursor.toNat + 1)
        out := s.out ++ [⟨s.cursor, .unk, .unknown, .one, [], false⟩] }

/-- A step runs the instruction whose opcode byte stands at the cursor (40_decoder_walker.md section 1, The step). That B and
N are in the state is log entry 1. -/
def Obligations.StepRunsDecodedInstruction : Prop :=
  ∀ (s : State) (op : Byte) (rest : List Byte) (i : Instr), s.Unbroken → s.trunc = false →
    bufRead s s.cursor.toNat = some op → decode (op :: rest) = .ok (i, rest) → step s = exec i s

/-- The walker step: the bounds test, the operand bytes, the record, and the cursor or the truncation flag (R100). -/
def Obligations.WalkerStep : Prop :=
  ∀ (s : State) (op : Byte) (ops : List Byte), s.Unbroken → bufRead s s.cursor.toNat = some op →
    (WholeInstr (rom op) s ops → step s = .next (emitWhole (rom op) s ops)) ∧
    (CutInstr (rom op) s ops → step s = .next (emitCut (rom op) s ops)) ∧
    ∃ t, step s = .next t

/-- No step of an unbroken run faults or is refused, and no instruction ever does (R400). -/
def Obligations.WalkerNeverFails : Prop :=
  (∀ s : State, s.Unbroken → ∃ t, step s = .next t) ∧ (∀ (i : Instr) (s : State), ∃ t, exec i s = .next t)

/-- In the final state a step changes nothing (10_state.md section 2, Walker state (done), 60_exceptions.md section 5 (the
final state holds cursor, trunc and out)). That a step answers the same state there is the model's choice, log entry 4. -/
def Obligations.DoneHoldsState : Prop :=
  ∀ s : State, (s.done = true ↔ s.trunc = true ∨ s.n.toNat ≤ s.cursor.toNat) ∧
    (s.hostChanged = false → s.n.toNat ≤ nMax → s.done = true → step s = .next s)

/-- A run the host has broken, or whose buffer is longer than N_MAX, is refused until the next start (70_reset_and_hazards.md
section 3, Hazards, 92_eei_decisions.md D14 and D15). The mark, its two names and their order are the model's, log entry 6.
-/
def Obligations.BrokenRunHasNoStep : Prop :=
  ∀ s : State,
    (s.hostChanged = true → step s = .refused .hostChangedRun) ∧
    (s.hostChanged = false → nMax < s.n.toNat → step s = .refused .bufferTooLarge) ∧
    (s.hostChanged = false → s.n.toNat ≤ nMax → s.done = false → s.bufLen ≠ s.n → step s = .refused .hostChangedRun) ∧
    s.raiseStart.hostChanged = false ∧ s.raiseStart.n = s.bufLen ∧
    (s.bufLen.toNat ≤ nMax → ∃ t, step s.raiseStart = .next t)

/-- A host that changes a byte of B or N during a run breaks it until the next start; one that changes nothing, or waits for
done, does not (70_reset_and_hazards.md section 2, Boot requirements, 70_reset_and_hazards.md section 3, Hazards). When the
mark is set is the model's reading, log entry 6. -/
def Obligations.HostChangeBreaksRun : Prop :=
  ∀ (s : State) (a : Nat) (b : Byte) (bytes : List Byte) (len : Offset),
    (s.done = false → a < s.n.toNat → s.buf.read a ≠ b →
      (s.hostWrite a b).hostChanged = true ∧ step (s.hostWrite a b) = .refused .hostChangedRun) ∧
    (s.done = false → len ≠ s.n →
      (s.hostSetLen len).hostChanged = true ∧ step (s.hostSetLen len) = .refused .hostChangedRun) ∧
    (s.hostChanged = true →
      (s.hostWrite a b).hostChanged = true ∧ (s.hostLoad a bytes).hostChanged = true ∧ (s.hostSetLen len).hostChanged = true) ∧
    (s.done = true ∨ s.n.toNat ≤ a ∨ s.buf.read a = b → (s.hostWrite a b).hostChanged = s.hostChanged) ∧
    (s.done = true ∨ len = s.n → (s.hostSetLen len).hostChanged = s.hostChanged)

/-- Raising start resets cursor, trunc and out and samples N; reset leaves the values the spec gives (10_state.md section 7,
Reset values, 70_reset_and_hazards.md section 1, Reset and start of a run). The start is the host's operation raiseStart,
which leaves the buffer, log entry 5; rec_valid is read off out, log entry 12. -/
def Obligations.StartResetsWalker : Prop :=
  (State.reset.cursor = 0 ∧ State.reset.trunc = false ∧ State.reset.out = [] ∧ recValid State.reset = false ∧
    (State.reset.done = true ↔ State.reset.n.toNat = 0)) ∧
  ∀ s : State, s.raiseStart.cursor = 0 ∧ s.raiseStart.trunc = false ∧ s.raiseStart.out = [] ∧ recValid s.raiseStart = false ∧
    s.raiseStart.n = s.bufLen ∧ s.raiseStart.buf = s.buf ∧
    (s.raiseStart.done = true ↔ s.raiseStart.n.toNat = 0)

/-- After the host's duties the run is unbroken and every buffer read gives the byte the host loaded (20_memory.md section 1,
Address spaces, 70_reset_and_hazards.md section 2, Boot requirements). The host's operations are the model's, log entries 5
and 14. -/
def Obligations.LaunchLoadsBuffer : Prop :=
  ∀ (s : State) (bytes : List Byte), s.buf.wf = true → bytes.length ≤ nMax →
    (s.launch bytes).Unbroken ∧ (s.launch bytes).Inv ∧ (s.launch bytes).n.toNat = bytes.length ∧
    (s.launch bytes).cursor = 0 ∧ ∀ a, bufRead (s.launch bytes) a = bytes[a]?

/-- A run over an empty buffer takes no step and emits no record (40_decoder_walker.md section 2, Properties of every run).
That a step in the final state answers the same state is the model's choice, log entry 4. -/
def Obligations.EmptyBufferEmitsNothing : Prop :=
  ∀ (s : State) (k : Nat), s.bufLen = 0 →
    s.raiseStart.done = true ∧ Host.Core.run core k s.raiseStart = .next s.raiseStart ∧ s.raiseStart.out = []

/-- An instruction placed where the next step fetches it is the one that step runs (30_encoding.md section 1, Instruction
formats, 40_decoder_walker.md section 1, The step). The placing is the model's stand-in for the host's load, log entry 5. -/
def Obligations.PlacedInstructionRuns : Prop :=
  ∀ (s : State) (nbits w : Nat), s.buf.wf = true →
    ∃ i t r, decodeTableWord nbits w = some i ∧ step (s.withFetchWord nbits w) = exec i (s.withFetchWord nbits w) ∧
      step (s.withFetchWord nbits w) = .next t ∧ t.out = s.out ++ [r] ∧ r.trunc = false ∧ r.mnem = (rom i.opcode).mnem

/-- What every instruction leaves unchanged: the buffer, N, the host's inputs, and the records already emitted (10_state.md
section 2, Walker state, 20_memory.md section 1, Address spaces, 40_decoder_walker.md section 1, The step). -/
def Obligations.ExecFrame : Prop :=
  ∀ (i : Instr) (s t : State), exec i s = .next t →
    t.buf = s.buf ∧ t.n = s.n ∧ t.bufLen = s.bufLen ∧ t.hostChanged = s.hostChanged ∧
    (∀ a, t.buf.read a = s.buf.read a) ∧
    (t = s ∨ ∃ r, t.out = s.out ++ [r] ∧ (t.cursor = s.cursor ∨ t.trunc = s.trunc))

/-- No step writes the buffer: every buffer read gives after a step what it gave before (R54). -/
def Obligations.BufferNeverWritten : Prop :=
  ∀ s t : State, step s = .next t →
    t.buf = s.buf ∧ t.n = s.n ∧ t.bufLen = s.bufLen ∧ t.hostChanged = s.hostChanged ∧ ∀ a, bufRead t a = bufRead s a

/-- Each step appends exactly one record and rewrites none; its fields are the buffer's (R27). -/
def Obligations.StepAppendsOneRecord : Prop :=
  ∀ s : State, s.Unbroken → s.done = false →
    ∃ t r op, step s = .next t ∧ t.out = s.out ++ [r] ∧ bufRead s s.cursor.toNat = some op ∧ r.off = s.cursor ∧
      (⟨r.mnem, r.mode, r.len⟩ : Descriptor) = rom op ∧ r.nops ≤ 2 ∧
      (∀ k, k < r.nops → bufRead s (s.cursor.toNat + 1 + k) = r.lane k) ∧
      (r.trunc = true ↔ s.n.toNat < s.cursor.toNat + r.len.toNat)

/-- A complete record advances the cursor by exactly its length; a truncated one leaves it unchanged (R22). -/
def Obligations.CursorAdvance : Prop :=
  ∀ s : State, s.Unbroken → s.done = false →
    ∃ t r, step s = .next t ∧ t.out = s.out ++ [r] ∧ r.off = s.cursor ∧ 1 ≤ r.len.toNat ∧ r.len.toNat ≤ 3 ∧
      (r.trunc = false → t.cursor.toNat = s.cursor.toNat + r.len.toNat) ∧ (r.trunc = true → t.cursor = s.cursor)

/-- trunc is set by the truncated outcome and by nothing else, and stays set until the next start (R24). -/
def Obligations.TruncSetOnlyByTruncation : Prop :=
  (∀ s t : State, step s = .next t → s.trunc = true → t = s) ∧
  (∀ s t : State, step s = .next t → s.trunc = false →
    (t.trunc = true ↔ s.cursor.toNat < s.n.toNat ∧ s.n.toNat < s.cursor.toNat + (rom (s.buf.read s.cursor.toNat)).len.toNat)) ∧
  State.reset.trunc = false ∧ ∀ s : State, s.raiseStart.trunc = false

/-- Record lane i carries BufRead(off + 1 + i) when i < nops and no value otherwise (R101). -/
def Obligations.OperandLanes : Prop :=
  ∀ s : State, s.Unbroken → s.done = false →
    ∃ t r, step s = .next t ∧ t.out = s.out ++ [r] ∧
      r.nops = (if s.cursor.toNat + r.len.toNat ≤ s.n.toNat then r.len.toNat - 1 else s.n.toNat - s.cursor.toNat - 1) ∧
      ∀ i, r.lane i = if i < r.nops then bufRead s (s.cursor.toNat + 1 + i) else none

/-- In a 3-byte instruction the first operand byte is the low byte of the 16-bit operand (20_memory.md section 2, Byte order,
alignment and width). -/
def Obligations.LowByteFirst : Prop :=
  ∀ (s : State) (op lo hi : Byte), s.Unbroken → s.trunc = false → bufRead s s.cursor.toNat = some op → (rom op).len = .three →
    bufRead s (s.cursor.toNat + 1) = some lo → bufRead s (s.cursor.toNat + 2) = some hi →
    ∃ t r, step s = .next t ∧ t.out = s.out ++ [r] ∧ r.ops = [lo, hi] ∧ r.operand16 = some (lo.toNat + 256 * hi.toNat)

/-- The reads of a step are the bytes of the instruction, in ascending order, and none is at or above N (20_memory.md section
1, Address spaces). What the read signals show in a run step refuses is the model's choice, log entry 17. -/
def Obligations.ReadsStayInBuffer : Prop :=
  ∀ s : State, (∀ a ∈ bufAddrs s, a < s.n.toNat) ∧ (bufAddrs s).length ≤ 3 ∧
    bufAddrs s = (List.range (bufAddrs s).length).map (fun k => s.cursor.toNat + k) ∧
    (s.done = false → (bufAddrs s).length =
      min (rom (s.buf.read s.cursor.toNat)).len.toNat (s.n.toNat - s.cursor.toNat))

/-- A step depends on no buffer byte but those it reads: no byte past the end of the buffer matters (70_reset_and_hazards.md
section 3, Hazards, 20_memory.md section 1, Address spaces). In the final state the step answers the same state by the
model's choice, log entry 4. -/
def Obligations.BytesNotReadDoNotMatter : Prop :=
  ∀ (s t : State) (m : Memory), (∀ a ∈ bufAddrs s, m.read a = s.buf.read a) → step s = .next t →
    step { s with buf := m } = .next { t with buf := m }

/-- Each step yields exactly one outcome class, decided by the bounds test and then by the opcode byte (60_exceptions.md
section 1, Exceptions and outcomes). What the rec outputs hold is the model's reading, log entry 12. -/
def Obligations.OutcomeClasses : Prop :=
  ∀ (s : State) (op : Byte), s.Unbroken → s.trunc = false → bufRead s s.cursor.toNat = some op →
    ∃ t r, step s = .next t ∧ t.out = s.out ++ [r] ∧
      (r.outcome.code = 2 ↔ s.n.toNat < s.cursor.toNat + (rom op).len.toNat) ∧
      (r.outcome.code = 1 ↔ op ∈ undefinedOpcodes) ∧
      r.outcome.code ≤ 2 ∧ recPort t = some r ∧ recValid t = true ∧
      (op ∈ undefinedOpcodes → r.trunc = false ∧ t.cursor.toNat = s.cursor.toNat + 1)

/-- The state after reset meets the invariant of a run (10_state.md section 7, Reset values). The buffer and N at reset are
the model's choice, log entries 2 and 3. -/
def Obligations.ResetMeetsInv : Prop :=
  State.reset.Inv

/-- Every step keeps the invariant of a run: canonical buffer, cursor within it, gapless records that are the buffer's own
(10_state.md section 2, Walker state, 40_decoder_walker.md section 2, Properties of every run, 20_memory.md section 4,
Ordering and synchronisation). A step in the final state answers the same state by the model's choice, log entry 4; the
canonical list is the model's, log entry 2. -/
def Obligations.StepKeepsInv : Prop :=
  ∀ s t : State, s.Inv → step s = .next t → t.Inv

/-- Every host action keeps the buffer's canonical form, and a start over a canonical buffer meets the invariant
(70_reset_and_hazards.md section 2, Boot requirements, 10_state.md section 4, Control and status interface). The canonical
list and the host's operations are the model's, log entries 2 and 5. -/
def Obligations.HostKeepsCanonicalBuffer : Prop :=
  ∀ s : State, s.buf.wf = true →
    (∀ a b, (s.hostWrite a b).buf.wf = true) ∧ (∀ a bytes, (s.hostLoad a bytes).buf.wf = true) ∧
    (∀ len, (s.hostSetLen len).buf.wf = true) ∧ s.raiseStart.Inv

/-- N steps end every run, and what it has emitted is the document's loop over the buffer (40_decoder_walker.md section 1,
The step, 40_decoder_walker.md section 2, Properties of every run). The steps left over after done hold the state by the
model's choice, log entry 4. -/
def Obligations.RunEmitsBufferRecords : Prop :=
  ∀ s : State, s.Unbroken → s.Inv →
    ∃ t : State, Host.Core.run core s.n.toNat s = .next t ∧ t.done = true ∧ t.out = recordsOfRun s ∧
      t.buf = s.buf ∧ t.n = s.n

/-- A run over N bytes is done after at most N steps, with at most N records, none at or above offset N (40_decoder_walker.md
section 2, Properties of every run). The steps left over after done hold the state by the model's choice, log entry 4. -/
def Obligations.RunTerminates : Prop :=
  ∀ s : State, s.Unbroken → s.Inv →
    ∃ t : State, Host.Core.run core s.n.toNat s = .next t ∧ t.done = true ∧ t.out.length ≤ s.n.toNat ∧
      ∀ r ∈ t.out, r.off.toNat < s.n.toNat

/-- Instructions laid out one after another, each with its operand bytes, are decoded back as exactly that listing
(30_encoding.md section 1, Instruction formats, 40_decoder_walker.md section 2, Properties of every run). The launch and the
held final state are the model's, log entries 4 and 5; that operand bytes stand beside the instruction is log entry 8. -/
def Obligations.EncodedListingIsDecodedBack : Prop :=
  ∀ (s : State) (l : List (Instr × List Byte)), s.buf.wf = true →
    (∀ p ∈ l, p.1.wellFormed = true ∧ p.2.length + 1 = (rom p.1.opcode).len.toNat) → (bytesOf l).length ≤ nMax →
    ∃ t : State, Host.Core.run core (bytesOf l).length (s.launch (bytesOf l)) = .next t ∧ t.done = true ∧ t.trunc = false ∧
      t.cursor.toNat = (bytesOf l).length ∧ t.out = listing 0 l

/-- Two runs over the same bytes emit the same records, whatever the walker held before (40_decoder_walker.md section 2,
Properties of every run). The launch and the held final state are the model's, log entries 4 and 5. -/
def Obligations.SameBufferSameRecords : Prop :=
  ∀ (s₁ s₂ : State) (bytes : List Byte), s₁.buf.wf = true → s₂.buf.wf = true → bytes.length ≤ nMax →
    ∃ t₁ t₂ : State, Host.Core.run core bytes.length (s₁.launch bytes) = .next t₁ ∧
      Host.Core.run core bytes.length (s₂.launch bytes) = .next t₂ ∧
      t₁.done = true ∧ t₂.done = true ∧ t₁.out = t₂.out ∧ t₁.cursor = t₂.cursor ∧ t₁.trunc = t₂.trunc

/-- The offsets of the records are gapless from 0, and only the last record can be truncated (40_decoder_walker.md section 2,
Properties of every run, 10_state.md section 3, Output record sequence). -/
def Obligations.OffsetsGapless : Prop :=
  ∀ s : State, s.Inv →
    (∀ r, s.out.head? = some r → r.off.toNat = 0) ∧
    (∀ k r r', s.out[k]? = some r → s.out[k + 1]? = some r' → r'.off.toNat = r.off.toNat + r.len.toNat ∧ r.trunc = false) ∧
    (∀ r ∈ s.out, r.trunc = true → s.out.getLast? = some r ∧ s.trunc = true ∧ r.len ≠ .one ∧
      r.nops = s.n.toNat - r.off.toNat - 1 ∧ r.nops < r.len.toNat - 1) ∧
    (∀ r ∈ s.out, r.trunc = false → r.nops = r.len.toNat - 1)

/-- At done the records cover the whole buffer, or all of it but the truncated instruction's available bytes
(40_decoder_walker.md section 2, Properties of every run). -/
def Obligations.BytesDecodedAtDone : Prop :=
  ∀ s : State, s.Inv → s.done = true →
    (s.trunc = false → s.cursor = s.n ∧ lengthSum s.out = s.n.toNat) ∧
    (s.trunc = true → ∃ rs r, s.out = rs ++ [r] ∧ r.trunc = true ∧ s.cursor = r.off ∧
      s.n.toNat - s.cursor.toNat = 1 + r.nops ∧ lengthSum rs = s.cursor.toNat)

/-- A complete record renders as offset, addressing tag, operand bytes low first, mnemonic (R110, R111, R112). -/
def Obligations.CompleteRecordRendering : Prop :=
  ∀ (off : Offset) (m : Mnemonic) (a : Mode) (b lo hi : Byte),
    Record.fields ⟨off, m, a, .one, [], false⟩ = [offsetText off, Config.modeTagText a, m.text] ∧
    Record.fields ⟨off, m, a, .two, [b], false⟩ = [offsetText off, Config.modeTagText a, byteText b, m.text] ∧
    Record.fields ⟨off, m, a, .three, [lo, hi], false⟩ =
      [offsetText off, Config.modeTagText a, byteText lo, byteText hi, m.text]

/-- Offsets render as 4 lower-case hex digits, operand bytes as 2, zero-padded (40_decoder_walker.md section 3, Record
rendering). -/
def Obligations.HexRendering : Prop :=
  (∀ off : Offset, off.toNat < 65536 → offsetText off = String.ofList
    [Nat.digitChar (off.toNat / 4096), Nat.digitChar (off.toNat / 256 % 16), Nat.digitChar (off.toNat / 16 % 16),
      Nat.digitChar (off.toNat % 16)]) ∧
  (∀ b : Byte, byteText b = String.ofList [Nat.digitChar (b.toNat / 16), Nat.digitChar (b.toNat % 16)]) ∧
  (List.range 16).map Nat.digitChar = "0123456789abcdef".toList
end

