-- ==== Sys2Proof/Laws/Memory.lean ====
section
/-! SUPPORT. The buffer's list: every operation keeps its canonical form, and a read after a write gives the byte written there and
leaves every other offset alone. -/

namespace Sys2Proof.Machine

theorem Memory.wfFrom_mono {m : Memory} {lo lo' : Nat} (h : lo' ≤ lo) (hm : m.wfFrom lo = true) : m.wfFrom lo' = true := by
  cases m with
  | nil => rfl
  | cons c m =>
    simp only [Memory.wfFrom, Bool.and_eq_true, decide_eq_true_eq] at *
    exact ⟨⟨by omega, hm.1.2⟩, hm.2⟩

/-- No offset below the first listed one is listed. -/
theorem Memory.read_below {m : Memory} {lo a : Nat} (hm : m.wfFrom lo = true) (h : a < lo) : m.read a = Memory.unlisted := by
  induction m generalizing lo with
  | nil => rfl
  | cons c m ih =>
    simp only [Memory.wfFrom, Bool.and_eq_true, decide_eq_true_eq] at hm
    simp only [Memory.read]
    rw [if_neg (by omega)]
    exact ih hm.2 (by omega)

theorem Memory.wfFrom_cons {m : Memory} {a : Nat} {b : Byte} (hm : m.wfFrom (a + 1) = true) :
    (Memory.cons a b m).wfFrom a = true := by
  unfold Memory.cons
  split
  · exact Memory.wfFrom_mono (by omega) hm
  · rename_i h
    simpa [Memory.wfFrom, h] using hm

theorem Memory.read_cons {m : Memory} {a x : Nat} {b : Byte} (hm : m.wfFrom (a + 1) = true) :
    (Memory.cons a b m).read x = if x = a then b else m.read x := by
  unfold Memory.cons
  split
  · rename_i h
    split
    · rename_i hx
      rw [hx, h]
      exact Memory.read_below hm (by omega)
    · rfl
  · rfl

theorem Memory.wfFrom_write {m : Memory} {lo a : Nat} {b : Byte} (hm : m.wfFrom lo = true) (h : lo ≤ a) :
    (m.write a b).wfFrom lo = true := by
  induction m generalizing lo with
  | nil => exact Memory.wfFrom_mono h (Memory.wfFrom_cons rfl)
  | cons c m ih =>
    simp only [Memory.wfFrom, Bool.and_eq_true, decide_eq_true_eq] at hm
    simp only [Memory.write]
    split
    · refine Memory.wfFrom_mono h (Memory.wfFrom_cons ?_)
      simp only [Memory.wfFrom, Bool.and_eq_true, decide_eq_true_eq]
      exact ⟨⟨by omega, hm.1.2⟩, hm.2⟩
    · split
      · rename_i hk
        exact Memory.wfFrom_mono h (Memory.wfFrom_cons (hk ▸ hm.2))
      · simp only [Memory.wfFrom, Bool.and_eq_true, decide_eq_true_eq]
        exact ⟨hm.1, ih hm.2 (by omega)⟩

theorem Memory.read_write {m : Memory} {lo a x : Nat} {b : Byte} (hm : m.wfFrom lo = true) :
    (m.write a b).read x = if x = a then b else m.read x := by
  induction m generalizing lo with
  | nil => exact Memory.read_cons rfl
  | cons c m ih =>
    have hc := hm
    simp only [Memory.wfFrom, Bool.and_eq_true, decide_eq_true_eq] at hm
    simp only [Memory.write]
    split
    · apply Memory.read_cons
      simp only [Memory.wfFrom, Bool.and_eq_true, decide_eq_true_eq]
      exact ⟨⟨by omega, hm.1.2⟩, hm.2⟩
    · split
      · rename_i hk
        rw [Memory.read_cons (hk ▸ hm.2)]
        simp only [Memory.read]
        split
        · rfl
        · rw [if_neg (by omega)]
      · simp only [Memory.read, ih hm.2]
        split
        · rw [if_neg (by omega)]
        · rfl

/-- A write keeps the canonical form. -/
theorem Memory.write_wf {m : Memory} (a : Nat) (b : Byte) (hm : m.wf = true) : (m.write a b).wf = true :=
  Memory.wfFrom_write hm (Nat.zero_le a)

/-- A read after a write to the same offset gives the byte written. -/
theorem Memory.read_write_same {m : Memory} (a : Nat) (b : Byte) (hm : m.wf = true) : (m.write a b).read a = b := by
  rw [Memory.read_write hm, if_pos rfl]

/-- A write leaves every other offset alone. -/
theorem Memory.read_write_other {m : Memory} {a x : Nat} (b : Byte) (hm : m.wf = true) (h : x ≠ a) :
    (m.write a b).read x = m.read x := by
  rw [Memory.read_write hm, if_neg h]

/-- Writing bytes one after another keeps the canonical form. -/
theorem Memory.writeAll_wf {m : Memory} (a : Nat) (bs : List Byte) (hm : m.wf = true) : (m.writeAll a bs).wf = true := by
  induction bs generalizing m a with
  | nil => exact hm
  | cons b bs ih => exact ih (a + 1) (Memory.write_wf a b hm)

/-- Bytes written from an offset upward read back there, and every other offset reads as before. -/
theorem Memory.read_writeAll {m : Memory} (a : Nat) (bs : List Byte) (hm : m.wf = true) (x : Nat) :
    (m.writeAll a bs).read x = if h : a ≤ x ∧ x - a < bs.length then bs[x - a]'h.2 else m.read x := by
  induction bs generalizing m a with
  | nil => simp [Memory.writeAll]
  | cons b bs ih =>
    simp only [Memory.writeAll, ih (a + 1) (Memory.write_wf a b hm), Memory.read_write hm, List.length_cons]
    by_cases h : x = a
    · subst h
      rw [dif_neg (by omega), if_pos rfl, dif_pos (by omega)]
      simp
    · by_cases hx : a + 1 ≤ x ∧ x - (a + 1) < bs.length
      · have : x - a = (x - (a + 1)) + 1 := by omega
        rw [dif_pos hx, dif_pos (by omega)]
        simp [this]
      · rw [dif_neg hx, if_neg h, dif_neg (by omega)]

end Sys2Proof.Machine
end

