-- ==== Sys2Proof/Laws/PerInstr.lean ====
section
/-! SUPPORT. The per-instruction family `Triple`: the ROM holds for each instruction's opcode byte the triple (mnemonic, mode, length)
that the instruction's own rule of the spec gives it (41_load_store.md R200 to 47_undefined.md R351). -/

namespace Sys2Proof

/-- A fact about every byte follows from its 256 instances. -/
theorem forall_byte {P : Byte → Prop} (h : ∀ n : Fin 256, P (BitVec.ofFin n)) (b : Byte) : P b := h b.toFin

/-- The triple of an instruction's rule, R200 to R351. -/
def Instr.triple : Instr → Descriptor
  | .ldaImm => ⟨.lda, .immediate, .two⟩
  | .ldaZp => ⟨.lda, .zeroPage, .two⟩
  | .ldaZpx => ⟨.lda, .zeroPageX, .two⟩
  | .ldaAbs => ⟨.lda, .absolute, .three⟩
  | .ldaAbx => ⟨.lda, .absoluteX, .three⟩
  | .ldaAby => ⟨.lda, .absoluteY, .three⟩
  | .ldaIzx => ⟨.lda, .indexedIndirect, .two⟩
  | .ldaIzy => ⟨.lda, .indirectIndexed, .two⟩
  | .ldxImm => ⟨.ldx, .immediate, .two⟩
  | .ldxZp => ⟨.ldx, .zeroPage, .two⟩
  | .ldxZpy => ⟨.ldx, .zeroPageY, .two⟩
  | .ldxAbs => ⟨.ldx, .absolute, .three⟩
  | .ldxAby => ⟨.ldx, .absoluteY, .three⟩
  | .ldyImm => ⟨.ldy, .immediate, .two⟩
  | .ldyZp => ⟨.ldy, .zeroPage, .two⟩
  | .ldyZpx => ⟨.ldy, .zeroPageX, .two⟩
  | .ldyAbs => ⟨.ldy, .absolute, .three⟩
  | .ldyAbx => ⟨.ldy, .absoluteX, .three⟩
  | .staZp => ⟨.sta, .zeroPage, .two⟩
  | .staZpx => ⟨.sta, .zeroPageX, .two⟩
  | .staAbs => ⟨.sta, .absolute, .three⟩
  | .staAbx => ⟨.sta, .absoluteX, .three⟩
  | .staAby => ⟨.sta, .absoluteY, .three⟩
  | .staIzx => ⟨.sta, .indexedIndirect, .two⟩
  | .staIzy => ⟨.sta, .indirectIndexed, .two⟩
  | .stxZp => ⟨.stx, .zeroPage, .two⟩
  | .stxZpy => ⟨.stx, .zeroPageY, .two⟩
  | .stxAbs => ⟨.stx, .absolute, .three⟩
  | .styZp => ⟨.sty, .zeroPage, .two⟩
  | .styZpx => ⟨.sty, .zeroPageX, .two⟩
  | .styAbs => ⟨.sty, .absolute, .three⟩
  | .taxImp => ⟨.tax, .implied, .one⟩
  | .tayImp => ⟨.tay, .implied, .one⟩
  | .tsxImp => ⟨.tsx, .implied, .one⟩
  | .txaImp => ⟨.txa, .implied, .one⟩
  | .txsImp => ⟨.txs, .implied, .one⟩
  | .tyaImp => ⟨.tya, .implied, .one⟩
  | .phaImp => ⟨.pha, .implied, .one⟩
  | .phpImp => ⟨.php, .implied, .one⟩
  | .plaImp => ⟨.pla, .implied, .one⟩
  | .plpImp => ⟨.plp, .implied, .one⟩
  | .andImm => ⟨.and, .immediate, .two⟩
  | .andZp => ⟨.and, .zeroPage, .two⟩
  | .andZpx => ⟨.and, .zeroPageX, .two⟩
  | .andAbs => ⟨.and, .absolute, .three⟩
  | .andAbx => ⟨.and, .absoluteX, .three⟩
  | .andAby => ⟨.and, .absoluteY, .three⟩
  | .andIzx => ⟨.and, .indexedIndirect, .two⟩
  | .andIzy => ⟨.and, .indirectIndexed, .two⟩
  | .eorImm => ⟨.eor, .immediate, .two⟩
  | .eorZp => ⟨.eor, .zeroPage, .two⟩
  | .eorZpx => ⟨.eor, .zeroPageX, .two⟩
  | .eorAbs => ⟨.eor, .absolute, .three⟩
  | .eorAbx => ⟨.eor, .absoluteX, .three⟩
  | .eorAby => ⟨.eor, .absoluteY, .three⟩
  | .eorIzx => ⟨.eor, .indexedIndirect, .two⟩
  | .eorIzy => ⟨.eor, .indirectIndexed, .two⟩
  | .oraImm => ⟨.ora, .immediate, .two⟩
  | .oraZp => ⟨.ora, .zeroPage, .two⟩
  | .oraZpx => ⟨.ora, .zeroPageX, .two⟩
  | .oraAbs => ⟨.ora, .absolute, .three⟩
  | .oraAbx => ⟨.ora, .absoluteX, .three⟩
  | .oraAby => ⟨.ora, .absoluteY, .three⟩
  | .oraIzx => ⟨.ora, .indexedIndirect, .two⟩
  | .oraIzy => ⟨.ora, .indirectIndexed, .two⟩
  | .bitZp => ⟨.bit, .zeroPage, .two⟩
  | .bitAbs => ⟨.bit, .absolute, .three⟩
  | .adcImm => ⟨.adc, .immediate, .two⟩
  | .adcZp => ⟨.adc, .zeroPage, .two⟩
  | .adcZpx => ⟨.adc, .zeroPageX, .two⟩
  | .adcAbs => ⟨.adc, .absolute, .three⟩
  | .adcAbx => ⟨.adc, .absoluteX, .three⟩
  | .adcAby => ⟨.adc, .absoluteY, .three⟩
  | .adcIzx => ⟨.adc, .indexedIndirect, .two⟩
  | .adcIzy => ⟨.adc, .indirectIndexed, .two⟩
  | .sbcImm => ⟨.sbc, .immediate, .two⟩
  | .sbcZp => ⟨.sbc, .zeroPage, .two⟩
  | .sbcZpx => ⟨.sbc, .zeroPageX, .two⟩
  | .sbcAbs => ⟨.sbc, .absolute, .three⟩
  | .sbcAbx => ⟨.sbc, .absoluteX, .three⟩
  | .sbcAby => ⟨.sbc, .absoluteY, .three⟩
  | .sbcIzx => ⟨.sbc, .indexedIndirect, .two⟩
  | .sbcIzy => ⟨.sbc, .indirectIndexed, .two⟩
  | .cmpImm => ⟨.cmp, .immediate, .two⟩
  | .cmpZp => ⟨.cmp, .zeroPage, .two⟩
  | .cmpZpx => ⟨.cmp, .zeroPageX, .two⟩
  | .cmpAbs => ⟨.cmp, .absolute, .three⟩
  | .cmpAbx => ⟨.cmp, .absoluteX, .three⟩
  | .cmpAby => ⟨.cmp, .absoluteY, .three⟩
  | .cmpIzx => ⟨.cmp, .indexedIndirect, .two⟩
  | .cmpIzy => ⟨.cmp, .indirectIndexed, .two⟩
  | .cpxImm => ⟨.cpx, .immediate, .two⟩
  | .cpxZp => ⟨.cpx, .zeroPage, .two⟩
  | .cpxAbs => ⟨.cpx, .absolute, .three⟩
  | .cpyImm => ⟨.cpy, .immediate, .two⟩
  | .cpyZp => ⟨.cpy, .zeroPage, .two⟩
  | .cpyAbs => ⟨.cpy, .absolute, .three⟩
  | .incZp => ⟨.inc, .zeroPage, .two⟩
  | .incZpx => ⟨.inc, .zeroPageX, .two⟩
  | .incAbs => ⟨.inc, .absolute, .three⟩
  | .incAbx => ⟨.inc, .absoluteX, .three⟩
  | .inxImp => ⟨.inx, .implied, .one⟩
  | .inyImp => ⟨.iny, .implied, .one⟩
  | .decZp => ⟨.dec, .zeroPage, .two⟩
  | .decZpx => ⟨.dec, .zeroPageX, .two⟩
  | .decAbs => ⟨.dec, .absolute, .three⟩
  | .decAbx => ⟨.dec, .absoluteX, .three⟩
  | .dexImp => ⟨.dex, .implied, .one⟩
  | .deyImp => ⟨.dey, .implied, .one⟩
  | .aslZp => ⟨.asl, .zeroPage, .two⟩
  | .aslZpx => ⟨.asl, .zeroPageX, .two⟩
  | .aslAbs => ⟨.asl, .absolute, .three⟩
  | .aslAbx => ⟨.asl, .absoluteX, .three⟩
  | .aslAcc => ⟨.asl, .accumulator, .one⟩
  | .lsrZp => ⟨.lsr, .zeroPage, .two⟩
  | .lsrZpx => ⟨.lsr, .zeroPageX, .two⟩
  | .lsrAbs => ⟨.lsr, .absolute, .three⟩
  | .lsrAbx => ⟨.lsr, .absoluteX, .three⟩
  | .lsrAcc => ⟨.lsr, .accumulator, .one⟩
  | .rolZp => ⟨.rol, .zeroPage, .two⟩
  | .rolZpx => ⟨.rol, .zeroPageX, .two⟩
  | .rolAbs => ⟨.rol, .absolute, .three⟩
  | .rolAbx => ⟨.rol, .absoluteX, .three⟩
  | .rolAcc => ⟨.rol, .accumulator, .one⟩
  | .rorZp => ⟨.ror, .zeroPage, .two⟩
  | .rorZpx => ⟨.ror, .zeroPageX, .two⟩
  | .rorAbs => ⟨.ror, .absolute, .three⟩
  | .rorAbx => ⟨.ror, .absoluteX, .three⟩
  | .rorAcc => ⟨.ror, .accumulator, .one⟩
  | .jmpAbs => ⟨.jmp, .absolute, .three⟩
  | .jmpInd => ⟨.jmp, .indirect, .three⟩
  | .jsrAbs => ⟨.jsr, .absolute, .three⟩
  | .rtsImp => ⟨.rts, .implied, .one⟩
  | .brkImp => ⟨.brk, .implied, .one⟩
  | .rtiImp => ⟨.rti, .implied, .one⟩
  | .bccRel => ⟨.bcc, .relative, .two⟩
  | .bcsRel => ⟨.bcs, .relative, .two⟩
  | .beqRel => ⟨.beq, .relative, .two⟩
  | .bmiRel => ⟨.bmi, .relative, .two⟩
  | .bneRel => ⟨.bne, .relative, .two⟩
  | .bplRel => ⟨.bpl, .relative, .two⟩
  | .bvcRel => ⟨.bvc, .relative, .two⟩
  | .bvsRel => ⟨.bvs, .relative, .two⟩
  | .clcImp => ⟨.clc, .implied, .one⟩
  | .cldImp => ⟨.cld, .implied, .one⟩
  | .cliImp => ⟨.cli, .implied, .one⟩
  | .clvImp => ⟨.clv, .implied, .one⟩
  | .secImp => ⟨.sec, .implied, .one⟩
  | .sedImp => ⟨.sed, .implied, .one⟩
  | .seiImp => ⟨.sei, .implied, .one⟩
  | .nopImp => ⟨.nop, .implied, .one⟩
  | .unk _ => ⟨.unk, .unknown, .one⟩

set_option maxRecDepth 4096 in
/-- Every byte of the undefined set holds the unknown descriptor (R351). -/
theorem rom_undefined (op : Byte) : undefinedOpcodes.contains op = true → rom op = unknownDescriptor :=
  forall_byte (P := fun op => undefinedOpcodes.contains op = true → rom op = unknownDescriptor) (by decide) op

namespace Laws.Triple

/-- The ROM's descriptor for the instruction's opcode byte is the triple of its rule. -/
def Statement (i : Instr) : Prop := i.wellFormed = true → rom i.opcode = i.triple

theorem ldaImm : Statement .ldaImm := fun _ => rfl
theorem ldaZp : Statement .ldaZp := fun _ => rfl
theorem ldaZpx : Statement .ldaZpx := fun _ => rfl
theorem ldaAbs : Statement .ldaAbs := fun _ => rfl
theorem ldaAbx : Statement .ldaAbx := fun _ => rfl
theorem ldaAby : Statement .ldaAby := fun _ => rfl
theorem ldaIzx : Statement .ldaIzx := fun _ => rfl
theorem ldaIzy : Statement .ldaIzy := fun _ => rfl
theorem ldxImm : Statement .ldxImm := fun _ => rfl
theorem ldxZp : Statement .ldxZp := fun _ => rfl
theorem ldxZpy : Statement .ldxZpy := fun _ => rfl
theorem ldxAbs : Statement .ldxAbs := fun _ => rfl
theorem ldxAby : Statement .ldxAby := fun _ => rfl
theorem ldyImm : Statement .ldyImm := fun _ => rfl
theorem ldyZp : Statement .ldyZp := fun _ => rfl
theorem ldyZpx : Statement .ldyZpx := fun _ => rfl
theorem ldyAbs : Statement .ldyAbs := fun _ => rfl
theorem ldyAbx : Statement .ldyAbx := fun _ => rfl
theorem staZp : Statement .staZp := fun _ => rfl
theorem staZpx : Statement .staZpx := fun _ => rfl
theorem staAbs : Statement .staAbs := fun _ => rfl
theorem staAbx : Statement .staAbx := fun _ => rfl
theorem staAby : Statement .staAby := fun _ => rfl
theorem staIzx : Statement .staIzx := fun _ => rfl
theorem staIzy : Statement .staIzy := fun _ => rfl
theorem stxZp : Statement .stxZp := fun _ => rfl
theorem stxZpy : Statement .stxZpy := fun _ => rfl
theorem stxAbs : Statement .stxAbs := fun _ => rfl
theorem styZp : Statement .styZp := fun _ => rfl
theorem styZpx : Statement .styZpx := fun _ => rfl
theorem styAbs : Statement .styAbs := fun _ => rfl
theorem taxImp : Statement .taxImp := fun _ => rfl
theorem tayImp : Statement .tayImp := fun _ => rfl
theorem tsxImp : Statement .tsxImp := fun _ => rfl
theorem txaImp : Statement .txaImp := fun _ => rfl
theorem txsImp : Statement .txsImp := fun _ => rfl
theorem tyaImp : Statement .tyaImp := fun _ => rfl
theorem phaImp : Statement .phaImp := fun _ => rfl
theorem phpImp : Statement .phpImp := fun _ => rfl
theorem plaImp : Statement .plaImp := fun _ => rfl
theorem plpImp : Statement .plpImp := fun _ => rfl
theorem andImm : Statement .andImm := fun _ => rfl
theorem andZp : Statement .andZp := fun _ => rfl
theorem andZpx : Statement .andZpx := fun _ => rfl
theorem andAbs : Statement .andAbs := fun _ => rfl
theorem andAbx : Statement .andAbx := fun _ => rfl
theorem andAby : Statement .andAby := fun _ => rfl
theorem andIzx : Statement .andIzx := fun _ => rfl
theorem andIzy : Statement .andIzy := fun _ => rfl
theorem eorImm : Statement .eorImm := fun _ => rfl
theorem eorZp : Statement .eorZp := fun _ => rfl
theorem eorZpx : Statement .eorZpx := fun _ => rfl
theorem eorAbs : Statement .eorAbs := fun _ => rfl
theorem eorAbx : Statement .eorAbx := fun _ => rfl
theorem eorAby : Statement .eorAby := fun _ => rfl
theorem eorIzx : Statement .eorIzx := fun _ => rfl
theorem eorIzy : Statement .eorIzy := fun _ => rfl
theorem oraImm : Statement .oraImm := fun _ => rfl
theorem oraZp : Statement .oraZp := fun _ => rfl
theorem oraZpx : Statement .oraZpx := fun _ => rfl
theorem oraAbs : Statement .oraAbs := fun _ => rfl
theorem oraAbx : Statement .oraAbx := fun _ => rfl
theorem oraAby : Statement .oraAby := fun _ => rfl
theorem oraIzx : Statement .oraIzx := fun _ => rfl
theorem oraIzy : Statement .oraIzy := fun _ => rfl
theorem bitZp : Statement .bitZp := fun _ => rfl
theorem bitAbs : Statement .bitAbs := fun _ => rfl
theorem adcImm : Statement .adcImm := fun _ => rfl
theorem adcZp : Statement .adcZp := fun _ => rfl
theorem adcZpx : Statement .adcZpx := fun _ => rfl
theorem adcAbs : Statement .adcAbs := fun _ => rfl
theorem adcAbx : Statement .adcAbx := fun _ => rfl
theorem adcAby : Statement .adcAby := fun _ => rfl
theorem adcIzx : Statement .adcIzx := fun _ => rfl
theorem adcIzy : Statement .adcIzy := fun _ => rfl
theorem sbcImm : Statement .sbcImm := fun _ => rfl
theorem sbcZp : Statement .sbcZp := fun _ => rfl
theorem sbcZpx : Statement .sbcZpx := fun _ => rfl
theorem sbcAbs : Statement .sbcAbs := fun _ => rfl
theorem sbcAbx : Statement .sbcAbx := fun _ => rfl
theorem sbcAby : Statement .sbcAby := fun _ => rfl
theorem sbcIzx : Statement .sbcIzx := fun _ => rfl
theorem sbcIzy : Statement .sbcIzy := fun _ => rfl
theorem cmpImm : Statement .cmpImm := fun _ => rfl
theorem cmpZp : Statement .cmpZp := fun _ => rfl
theorem cmpZpx : Statement .cmpZpx := fun _ => rfl
theorem cmpAbs : Statement .cmpAbs := fun _ => rfl
theorem cmpAbx : Statement .cmpAbx := fun _ => rfl
theorem cmpAby : Statement .cmpAby := fun _ => rfl
theorem cmpIzx : Statement .cmpIzx := fun _ => rfl
theorem cmpIzy : Statement .cmpIzy := fun _ => rfl
theorem cpxImm : Statement .cpxImm := fun _ => rfl
theorem cpxZp : Statement .cpxZp := fun _ => rfl
theorem cpxAbs : Statement .cpxAbs := fun _ => rfl
theorem cpyImm : Statement .cpyImm := fun _ => rfl
theorem cpyZp : Statement .cpyZp := fun _ => rfl
theorem cpyAbs : Statement .cpyAbs := fun _ => rfl
theorem incZp : Statement .incZp := fun _ => rfl
theorem incZpx : Statement .incZpx := fun _ => rfl
theorem incAbs : Statement .incAbs := fun _ => rfl
theorem incAbx : Statement .incAbx := fun _ => rfl
theorem inxImp : Statement .inxImp := fun _ => rfl
theorem inyImp : Statement .inyImp := fun _ => rfl
theorem decZp : Statement .decZp := fun _ => rfl
theorem decZpx : Statement .decZpx := fun _ => rfl
theorem decAbs : Statement .decAbs := fun _ => rfl
theorem decAbx : Statement .decAbx := fun _ => rfl
theorem dexImp : Statement .dexImp := fun _ => rfl
theorem deyImp : Statement .deyImp := fun _ => rfl
theorem aslZp : Statement .aslZp := fun _ => rfl
theorem aslZpx : Statement .aslZpx := fun _ => rfl
theorem aslAbs : Statement .aslAbs := fun _ => rfl
theorem aslAbx : Statement .aslAbx := fun _ => rfl
theorem aslAcc : Statement .aslAcc := fun _ => rfl
theorem lsrZp : Statement .lsrZp := fun _ => rfl
theorem lsrZpx : Statement .lsrZpx := fun _ => rfl
theorem lsrAbs : Statement .lsrAbs := fun _ => rfl
theorem lsrAbx : Statement .lsrAbx := fun _ => rfl
theorem lsrAcc : Statement .lsrAcc := fun _ => rfl
theorem rolZp : Statement .rolZp := fun _ => rfl
theorem rolZpx : Statement .rolZpx := fun _ => rfl
theorem rolAbs : Statement .rolAbs := fun _ => rfl
theorem rolAbx : Statement .rolAbx := fun _ => rfl
theorem rolAcc : Statement .rolAcc := fun _ => rfl
theorem rorZp : Statement .rorZp := fun _ => rfl
theorem rorZpx : Statement .rorZpx := fun _ => rfl
theorem rorAbs : Statement .rorAbs := fun _ => rfl
theorem rorAbx : Statement .rorAbx := fun _ => rfl
theorem rorAcc : Statement .rorAcc := fun _ => rfl
theorem jmpAbs : Statement .jmpAbs := fun _ => rfl
theorem jmpInd : Statement .jmpInd := fun _ => rfl
theorem jsrAbs : Statement .jsrAbs := fun _ => rfl
theorem rtsImp : Statement .rtsImp := fun _ => rfl
theorem brkImp : Statement .brkImp := fun _ => rfl
theorem rtiImp : Statement .rtiImp := fun _ => rfl
theorem bccRel : Statement .bccRel := fun _ => rfl
theorem bcsRel : Statement .bcsRel := fun _ => rfl
theorem beqRel : Statement .beqRel := fun _ => rfl
theorem bmiRel : Statement .bmiRel := fun _ => rfl
theorem bneRel : Statement .bneRel := fun _ => rfl
theorem bplRel : Statement .bplRel := fun _ => rfl
theorem bvcRel : Statement .bvcRel := fun _ => rfl
theorem bvsRel : Statement .bvsRel := fun _ => rfl
theorem clcImp : Statement .clcImp := fun _ => rfl
theorem cldImp : Statement .cldImp := fun _ => rfl
theorem cliImp : Statement .cliImp := fun _ => rfl
theorem clvImp : Statement .clvImp := fun _ => rfl
theorem secImp : Statement .secImp := fun _ => rfl
theorem sedImp : Statement .sedImp := fun _ => rfl
theorem seiImp : Statement .seiImp := fun _ => rfl
theorem nopImp : Statement .nopImp := fun _ => rfl
theorem unk (op : Byte) : Statement (.unk op) := fun h => rom_undefined op h

end Laws.Triple

end Sys2Proof
end

