-- ==== Sys2Proof/Laws/State.lean ====
section
/-! SUPPORT. What each update of the state does to each field. -/

namespace Sys2Proof.Machine

@[simp] theorem State.emit_cursor (s : State) (r : Record) : (s.emit r).cursor = s.cursor := rfl
@[simp] theorem State.emit_trunc (s : State) (r : Record) : (s.emit r).trunc = s.trunc := rfl
@[simp] theorem State.emit_out (s : State) (r : Record) : (s.emit r).out = s.out ++ [r] := rfl
@[simp] theorem State.emit_n (s : State) (r : Record) : (s.emit r).n = s.n := rfl
@[simp] theorem State.emit_buf (s : State) (r : Record) : (s.emit r).buf = s.buf := rfl
@[simp] theorem State.emit_bufLen (s : State) (r : Record) : (s.emit r).bufLen = s.bufLen := rfl
@[simp] theorem State.emit_hostChanged (s : State) (r : Record) : (s.emit r).hostChanged = s.hostChanged := rfl

@[simp] theorem State.setCursor_cursor (s : State) (v : Nat) : (s.setCursor v).cursor = BitVec.ofNat 17 v := rfl
@[simp] theorem State.setCursor_trunc (s : State) (v : Nat) : (s.setCursor v).trunc = s.trunc := rfl
@[simp] theorem State.setCursor_out (s : State) (v : Nat) : (s.setCursor v).out = s.out := rfl
@[simp] theorem State.setCursor_n (s : State) (v : Nat) : (s.setCursor v).n = s.n := rfl
@[simp] theorem State.setCursor_buf (s : State) (v : Nat) : (s.setCursor v).buf = s.buf := rfl
@[simp] theorem State.setCursor_bufLen (s : State) (v : Nat) : (s.setCursor v).bufLen = s.bufLen := rfl
@[simp] theorem State.setCursor_hostChanged (s : State) (v : Nat) : (s.setCursor v).hostChanged = s.hostChanged := rfl

@[simp] theorem State.endTruncated_cursor (s : State) : (s.endTruncated).cursor = s.cursor := rfl
@[simp] theorem State.endTruncated_trunc (s : State) : (s.endTruncated).trunc = true := rfl
@[simp] theorem State.endTruncated_out (s : State) : (s.endTruncated).out = s.out := rfl
@[simp] theorem State.endTruncated_n (s : State) : (s.endTruncated).n = s.n := rfl
@[simp] theorem State.endTruncated_buf (s : State) : (s.endTruncated).buf = s.buf := rfl
@[simp] theorem State.endTruncated_bufLen (s : State) : (s.endTruncated).bufLen = s.bufLen := rfl
@[simp] theorem State.endTruncated_hostChanged (s : State) : (s.endTruncated).hostChanged = s.hostChanged := rfl

@[simp] theorem State.hostWrite_cursor (s : State) (a : Nat) (b : Byte) : (s.hostWrite a b).cursor = s.cursor := rfl
@[simp] theorem State.hostWrite_trunc (s : State) (a : Nat) (b : Byte) : (s.hostWrite a b).trunc = s.trunc := rfl
@[simp] theorem State.hostWrite_out (s : State) (a : Nat) (b : Byte) : (s.hostWrite a b).out = s.out := rfl
@[simp] theorem State.hostWrite_n (s : State) (a : Nat) (b : Byte) : (s.hostWrite a b).n = s.n := rfl
@[simp] theorem State.hostWrite_buf (s : State) (a : Nat) (b : Byte) : (s.hostWrite a b).buf = s.buf.write a b := rfl
@[simp] theorem State.hostWrite_bufLen (s : State) (a : Nat) (b : Byte) : (s.hostWrite a b).bufLen = s.bufLen := rfl
@[simp] theorem State.hostWrite_hostChanged (s : State) (a : Nat) (b : Byte) : (s.hostWrite a b).hostChanged = (s.hostChanged || (!s.done && decide (a < s.n.toNat) && decide (s.buf.read a ≠ b))) := rfl

@[simp] theorem State.hostSetLen_cursor (s : State) (len : Offset) : (s.hostSetLen len).cursor = s.cursor := rfl
@[simp] theorem State.hostSetLen_trunc (s : State) (len : Offset) : (s.hostSetLen len).trunc = s.trunc := rfl
@[simp] theorem State.hostSetLen_out (s : State) (len : Offset) : (s.hostSetLen len).out = s.out := rfl
@[simp] theorem State.hostSetLen_n (s : State) (len : Offset) : (s.hostSetLen len).n = s.n := rfl
@[simp] theorem State.hostSetLen_buf (s : State) (len : Offset) : (s.hostSetLen len).buf = s.buf := rfl
@[simp] theorem State.hostSetLen_bufLen (s : State) (len : Offset) : (s.hostSetLen len).bufLen = len := rfl
@[simp] theorem State.hostSetLen_hostChanged (s : State) (len : Offset) : (s.hostSetLen len).hostChanged = (s.hostChanged || (!s.done && decide (len ≠ s.n))) := rfl

@[simp] theorem State.raiseStart_cursor (s : State) : (s.raiseStart).cursor = 0 := rfl
@[simp] theorem State.raiseStart_trunc (s : State) : (s.raiseStart).trunc = false := rfl
@[simp] theorem State.raiseStart_out (s : State) : (s.raiseStart).out = [] := rfl
@[simp] theorem State.raiseStart_n (s : State) : (s.raiseStart).n = s.bufLen := rfl
@[simp] theorem State.raiseStart_buf (s : State) : (s.raiseStart).buf = s.buf := rfl
@[simp] theorem State.raiseStart_bufLen (s : State) : (s.raiseStart).bufLen = s.bufLen := rfl
@[simp] theorem State.raiseStart_hostChanged (s : State) : (s.raiseStart).hostChanged = false := rfl

end Sys2Proof.Machine
end

