-- ==== Sys2Proof/Laws/Walk.lean ====
section
/-! SUPPORT. What the walker step can do, said once: it holds in the final state, and otherwise it emits one record and advances or
ends. -/

namespace Sys2Proof

theorem Len.toNat_pos (l : Len) : 1 ≤ l.toNat := by cases l <;> decide

theorem Len.toNat_le (l : Len) : l.toNat ≤ 3 := by cases l <;> decide

end Sys2Proof

namespace Sys2Proof.Machine

@[simp] theorem State.done_eq_false {s : State} : s.done = false ↔ s.trunc = false ∧ s.cursor.toNat < s.n.toNat := by
  simp [State.done]

@[simp] theorem fits_eq_true {d : Descriptor} {s : State} : fits d s = true ↔ s.cursor.toNat + d.len.toNat ≤ s.n.toNat := by
  simp [fits]

@[simp] theorem fits_eq_false {d : Descriptor} {s : State} : fits d s = false ↔ s.n.toNat < s.cursor.toNat + d.len.toNat := by
  simp [fits]

/-- A read below N gives the byte the host loaded. -/
theorem bufRead_of_lt {s : State} {a : Nat} (h : a < s.n.toNat) : bufRead s a = some (s.buf.read a) := if_pos h

/-- Reads that all lie below N give the buffer's bytes. -/
theorem readAll_of_lt {s : State} {l : List Nat} (h : ∀ a ∈ l, a < s.n.toNat) :
    readAll s l = some (l.map s.buf.read) := by
  induction l with
  | nil => rfl
  | cons a l ih =>
    simp only [List.mem_cons, forall_eq_or_imp] at h
    simp [readAll, bufRead_of_lt h.1, ih h.2]

/-- In an enabled step every operand lane lies in the buffer. -/
theorem laneOffsets_lt {d : Descriptor} {s : State} (h : s.done = false) :
    ∀ a ∈ laneOffsets s.cursor.toNat (nops d s), a < s.n.toNat := by
  intro a ha
  simp only [State.done_eq_false] at h
  simp only [laneOffsets, List.mem_map, List.mem_range] at ha
  obtain ⟨i, hi, rfl⟩ := ha
  unfold nops at hi
  split at hi
  · rename_i hf
    have := d.len.toNat_pos
    simp only [fits_eq_true] at hf
    omega
  · omega

/-- In an enabled step the operand bytes are the buffer's bytes at the operand lanes. -/
theorem operandBytes_of_enabled {d : Descriptor} {s : State} (h : s.done = false) :
    operandBytes d s = some ((laneOffsets s.cursor.toNat (nops d s)).map s.buf.read) :=
  readAll_of_lt (laneOffsets_lt h)

/-- The walker step never stops: it holds in the final state, advances past a complete record, or ends on a truncated one. -/
theorem walkStep_eq (d : Descriptor) (s : State) : walkStep d s = .next (
    if s.done then s
    else
      let t := s.emit (recordOf d ((laneOffsets s.cursor.toNat (nops d s)).map s.buf.read) s)
      if fits d s then t.setCursor (s.cursor.toNat + d.len.toNat) else t.endTruncated) := by
  unfold walkStep
  by_cases h : s.done = true
  · simp [h]
  · have h := Bool.eq_false_iff.mpr h
    rw [operandBytes_of_enabled h]
    simp only [h, Bool.false_eq_true, if_false]
    split <;> rfl

/-- An instruction's meaning is the walker step with the descriptor of its opcode byte. -/
theorem exec_eq_walkStep (i : Instr) (s : State) : exec i s = walkStep (rom i.opcode) s := by
  cases i <;> rfl

end Sys2Proof.Machine
end

