-- ==== Sys2Proof/Laws/Step.lean ====
section
/-! SUPPORT. What a step, a host load and the placing of an instruction can do, said once. -/

namespace Sys2Proof.Machine

/-- The state after an enabled walker step with the descriptor `d`. -/
def State.walked (s : State) (d : Descriptor) : State :=
  let t := s.emit (recordOf d ((laneOffsets s.cursor.toNat (nops d s)).map s.buf.read) s)
  if fits d s then t.setCursor (s.cursor.toNat + d.len.toNat) else t.endTruncated

/-- An unbroken run is not refused. -/
theorem runRefusal_of_unbroken {s : State} (h : s.Unbroken) : s.runRefusal = none := by
  obtain ⟨h1, h2, h3⟩ := h
  simp [State.runRefusal, h1, h3, Nat.not_lt.mpr h2]

/-- A step of a run that is not refused: the state is held when done, and otherwise the walker steps with the descriptor of the byte
at the cursor. -/
theorem step_of_not_refused {s : State} (h : s.runRefusal = none) :
    step s = .next (if s.done then s else s.walked (rom (decodeOpcode (s.buf.read s.cursor.toNat)).opcode)) := by
  unfold step
  rw [h]
  by_cases hd : s.done = true
  · simp [hd]
  · have hd := Bool.eq_false_iff.mpr hd
    have hlt := (State.done_eq_false.mp hd).2
    simp [hd, State.fetch, bufRead_of_lt hlt, exec_eq_walkStep, walkStep_eq, State.walked]

/-- A step that answers a next state comes from a run that is not refused. -/
theorem not_refused_of_step {s t : State} (h : step s = .next t) : s.runRefusal = none := by
  unfold step at h
  split at h
  · cases h
  · assumption

/-- Everything a step can do: hold a done state, or emit one record and advance or end. -/
theorem step_cases {s t : State} (h : step s = .next t) :
    (s.done = true ∧ t = s) ∨
    (s.done = false ∧ t = s.walked (rom (decodeOpcode (s.buf.read s.cursor.toNat)).opcode)) := by
  rw [step_of_not_refused (not_refused_of_step h)] at h
  injection h with h
  by_cases hd : s.done = true
  · exact .inl ⟨hd, by simpa [hd] using h.symm⟩
  · have hd := Bool.eq_false_iff.mpr hd
    exact .inr ⟨hd, by simpa [hd] using h.symm⟩

@[simp] theorem State.walked_buf (s : State) (d : Descriptor) : (s.walked d).buf = s.buf := by
  unfold State.walked
  by_cases h : fits d s = true <;> simp [h]

@[simp] theorem State.walked_n (s : State) (d : Descriptor) : (s.walked d).n = s.n := by
  unfold State.walked
  by_cases h : fits d s = true <;> simp [h]

@[simp] theorem State.walked_bufLen (s : State) (d : Descriptor) : (s.walked d).bufLen = s.bufLen := by
  unfold State.walked
  by_cases h : fits d s = true <;> simp [h]

@[simp] theorem State.walked_hostChanged (s : State) (d : Descriptor) : (s.walked d).hostChanged = s.hostChanged := by
  unfold State.walked
  by_cases h : fits d s = true <;> simp [h]

@[simp] theorem State.walked_out (s : State) (d : Descriptor) : (s.walked d).out =
    s.out ++ [recordOf d ((laneOffsets s.cursor.toNat (nops d s)).map s.buf.read) s] := by
  unfold State.walked
  by_cases h : fits d s = true <;> simp [h]

@[simp] theorem State.walked_cursor (s : State) (d : Descriptor) : (s.walked d).cursor =
    if fits d s then BitVec.ofNat 17 (s.cursor.toNat + d.len.toNat) else s.cursor := by
  unfold State.walked
  by_cases h : fits d s = true <;> simp [h]

@[simp] theorem State.walked_trunc (s : State) (d : Descriptor) : (s.walked d).trunc =
    if fits d s then s.trunc else true := by
  unfold State.walked
  by_cases h : fits d s = true <;> simp [h]

/-- A run of `k + 1` steps whose first step answers a next state is a run of `k` steps from there. -/
theorem run_of_step {s t : State} (k : Nat) (h : step s = .next t) : Host.Core.run core (k + 1) s = Host.Core.run core k t := by
  have h : core.step s = .next t := h
  simp only [Host.Core.run, h]

/-- A load writes its bytes one after another and touches nothing of the walker. -/
theorem State.hostLoad_walker (s : State) (a : Nat) (bs : List Byte) :
    (s.hostLoad a bs).buf = s.buf.writeAll a bs ∧ (s.hostLoad a bs).cursor = s.cursor ∧ (s.hostLoad a bs).trunc = s.trunc ∧
      (s.hostLoad a bs).out = s.out ∧ (s.hostLoad a bs).n = s.n ∧ (s.hostLoad a bs).bufLen = s.bufLen := by
  induction bs generalizing s a with
  | nil => exact ⟨rfl, rfl, rfl, rfl, rfl, rfl⟩
  | cons b bs ih =>
    obtain ⟨h1, h2, h3, h4, h5, h6⟩ := ih (s.hostWrite a b) (a + 1)
    exact ⟨h1, h2, h3, h4, h5, h6⟩

end Sys2Proof.Machine
end

