-- ==== Sys2Proof/Tests/Slice0.lean ====
section
/-! SUPPORT. Tests of the model against the spec's own examples and vectors (spec/95_test_vectors.md and the family files), and a
witness for the hypotheses of each statement. -/

open Sys2Proof Sys2Proof.Machine Sys2Proof.Rules

namespace Sys2Proof.Tests

/-- A run just started over some bytes. -/
def loaded (bytes : List Byte) : State := State.reset.launch bytes

/-- What a next state is asked. -/
def nextIs (o : Host.Outcome State Fault Refusal) (p : State → Bool) : Bool :=
  match o with
  | .next t => p t
  | _ => false

def refusedAs (o : Host.Outcome State Fault Refusal) (r : Refusal) : Bool :=
  match o with
  | .refused q => decide (q = r)
  | _ => false

/-- One step over the example's buffer emits its record and leaves its cursor. -/
def exampleHolds (e : List Byte × Record × Nat) : Bool :=
  nextIs (step (loaded e.1)) fun t => decide (t.out = [e.2.1]) && decide (t.cursor.toNat = e.2.2) && !t.trunc

/-! ### Well-formedness: the one check, and a term it refuses (47_undefined.md R351) -/

theorem test_wellFormed_refuses_documented_byte : (Instr.unk 0xA9).wellFormed = false := by decide
theorem test_wellFormed_takes_undefined_byte : (Instr.unk 0x9C).wellFormed = true := by decide

/-! ### Decoding, words written out from each family's encodings -/

theorem test_decode_load_store :
    decodeTableWord 8 0b10101001 = some .ldaImm ∧ decodeTableWord 8 0b10010110 = some .stxZpy ∧
    decodeTableWord 24 0x2000BE = some .ldxAby := by decide
theorem test_decode_transfer_stack :
    decodeTableWord 8 0b10111010 = some .tsxImp ∧ decodeTableWord 8 0b00101000 = some .plpImp := by decide
theorem test_decode_logic_arith_compare :
    decodeTableWord 8 0b01100001 = some .adcIzx ∧ decodeTableWord 8 0b11010001 = some .cmpIzy ∧
    decodeTableWord 8 0b00101100 = some .bitAbs := by decide
theorem test_decode_incdec_shift :
    decodeTableWord 8 0b01101010 = some .rorAcc ∧ decodeTableWord 8 0b11011110 = some .decAbx := by decide
theorem test_decode_control :
    decodeTableWord 8 0b00000000 = some .brkImp ∧ decodeTableWord 8 0b01101100 = some .jmpInd ∧
    decodeTableWord 16 0xFEF0 = some .beqRel := by decide
theorem test_decode_flags_nop : decodeTableWord 8 0b11101010 = some .nopImp ∧ decodeTableWord 8 0b10111000 = some .clvImp := by
  decide
theorem test_decode_undefined : decodeTableWord 8 0x89 = some (.unk 0x89) ∧ decodeTableWord 8 0x9E = some (.unk 0x9E) := by decide
theorem test_decode_empty : decode [] = .error .noOpcodeByte := by rfl

/-! ### ROM words (95_test_vectors.md section 2) -/

theorem test_rom_word_jmp_indirect : Descriptor.ofWord 0x6F7 = some ⟨.jmp, .indirect, .three⟩ ∧ romWord 0x6C = 0x6F7 := by decide
theorem test_rom_word_unknown : Descriptor.ofWord 0xE31 = some ⟨.unk, .unknown, .one⟩ ∧ romWord 0xFF = 0xE31 := by decide
theorem test_rom_word_never_stored : Descriptor.ofWord 0xFFF = none ∧ Descriptor.ofWord 0x740 = none := by decide

/-! ### The worked example of every opcode rule, R200 to R351 -/

/-- The worked examples of 41_load_store.md, one per opcode: the buffer, the record, the cursor after. -/
def examplesLoadStore : List (List Byte × Record × Nat) :=
  [
    ([0xA9, 0x05], ⟨0, .lda, .immediate, .two, [0x05], false⟩, 2),
    ([0xA5, 0x10], ⟨0, .lda, .zeroPage, .two, [0x10], false⟩, 2),
    ([0xB5, 0x10], ⟨0, .lda, .zeroPageX, .two, [0x10], false⟩, 2),
    ([0xAD, 0x00, 0x20], ⟨0, .lda, .absolute, .three, [0x00, 0x20], false⟩, 3),
    ([0xBD, 0x00, 0x20], ⟨0, .lda, .absoluteX, .three, [0x00, 0x20], false⟩, 3),
    ([0xB9, 0x00, 0x20], ⟨0, .lda, .absoluteY, .three, [0x00, 0x20], false⟩, 3),
    ([0xA1, 0x10], ⟨0, .lda, .indexedIndirect, .two, [0x10], false⟩, 2),
    ([0xB1, 0x10], ⟨0, .lda, .indirectIndexed, .two, [0x10], false⟩, 2),
    ([0xA2, 0x05], ⟨0, .ldx, .immediate, .two, [0x05], false⟩, 2),
    ([0xA6, 0x10], ⟨0, .ldx, .zeroPage, .two, [0x10], false⟩, 2),
    ([0xB6, 0x10], ⟨0, .ldx, .zeroPageY, .two, [0x10], false⟩, 2),
    ([0xAE, 0x00, 0x20], ⟨0, .ldx, .absolute, .three, [0x00, 0x20], false⟩, 3),
    ([0xBE, 0x00, 0x20], ⟨0, .ldx, .absoluteY, .three, [0x00, 0x20], false⟩, 3),
    ([0xA0, 0x05], ⟨0, .ldy, .immediate, .two, [0x05], false⟩, 2),
    ([0xA4, 0x10], ⟨0, .ldy, .zeroPage, .two, [0x10], false⟩, 2),
    ([0xB4, 0x10], ⟨0, .ldy, .zeroPageX, .two, [0x10], false⟩, 2)] ++
  [
    ([0xAC, 0x00, 0x20], ⟨0, .ldy, .absolute, .three, [0x00, 0x20], false⟩, 3),
    ([0xBC, 0x00, 0x20], ⟨0, .ldy, .absoluteX, .three, [0x00, 0x20], false⟩, 3),
    ([0x85, 0x10], ⟨0, .sta, .zeroPage, .two, [0x10], false⟩, 2),
    ([0x95, 0x10], ⟨0, .sta, .zeroPageX, .two, [0x10], false⟩, 2),
    ([0x8D, 0x00, 0x20], ⟨0, .sta, .absolute, .three, [0x00, 0x20], false⟩, 3),
    ([0x9D, 0x00, 0x20], ⟨0, .sta, .absoluteX, .three, [0x00, 0x20], false⟩, 3),
    ([0x99, 0x00, 0x20], ⟨0, .sta, .absoluteY, .three, [0x00, 0x20], false⟩, 3),
    ([0x81, 0x10], ⟨0, .sta, .indexedIndirect, .two, [0x10], false⟩, 2),
    ([0x91, 0x10], ⟨0, .sta, .indirectIndexed, .two, [0x10], false⟩, 2),
    ([0x86, 0x10], ⟨0, .stx, .zeroPage, .two, [0x10], false⟩, 2),
    ([0x96, 0x10], ⟨0, .stx, .zeroPageY, .two, [0x10], false⟩, 2),
    ([0x8E, 0x00, 0x20], ⟨0, .stx, .absolute, .three, [0x00, 0x20], false⟩, 3),
    ([0x84, 0x10], ⟨0, .sty, .zeroPage, .two, [0x10], false⟩, 2),
    ([0x94, 0x10], ⟨0, .sty, .zeroPageX, .two, [0x10], false⟩, 2),
    ([0x8C, 0x00, 0x20], ⟨0, .sty, .absolute, .three, [0x00, 0x20], false⟩, 3)]

theorem test_examples_load_store : examplesLoadStore.all exampleHolds = true := by decide

/-- The worked examples of 42_transfer_stack.md, one per opcode: the buffer, the record, the cursor after. -/
def examplesTransferStack : List (List Byte × Record × Nat) :=
  [
    ([0xAA], ⟨0, .tax, .implied, .one, [], false⟩, 1),
    ([0xA8], ⟨0, .tay, .implied, .one, [], false⟩, 1),
    ([0xBA], ⟨0, .tsx, .implied, .one, [], false⟩, 1),
    ([0x8A], ⟨0, .txa, .implied, .one, [], false⟩, 1),
    ([0x9A], ⟨0, .txs, .implied, .one, [], false⟩, 1),
    ([0x98], ⟨0, .tya, .implied, .one, [], false⟩, 1),
    ([0x48], ⟨0, .pha, .implied, .one, [], false⟩, 1),
    ([0x08], ⟨0, .php, .implied, .one, [], false⟩, 1),
    ([0x68], ⟨0, .pla, .implied, .one, [], false⟩, 1),
    ([0x28], ⟨0, .plp, .implied, .one, [], false⟩, 1)]

theorem test_examples_transfer_stack : examplesTransferStack.all exampleHolds = true := by decide

/-- The worked examples of 43_logic_arith_compare.md, one per opcode: the buffer, the record, the cursor after. -/
def examplesLogicArithCompare : List (List Byte × Record × Nat) :=
  [
    ([0x29, 0x05], ⟨0, .and, .immediate, .two, [0x05], false⟩, 2),
    ([0x25, 0x10], ⟨0, .and, .zeroPage, .two, [0x10], false⟩, 2),
    ([0x35, 0x10], ⟨0, .and, .zeroPageX, .two, [0x10], false⟩, 2),
    ([0x2D, 0x00, 0x20], ⟨0, .and, .absolute, .three, [0x00, 0x20], false⟩, 3),
    ([0x3D, 0x00, 0x20], ⟨0, .and, .absoluteX, .three, [0x00, 0x20], false⟩, 3),
    ([0x39, 0x00, 0x20], ⟨0, .and, .absoluteY, .three, [0x00, 0x20], false⟩, 3),
    ([0x21, 0x10], ⟨0, .and, .indexedIndirect, .two, [0x10], false⟩, 2),
    ([0x31, 0x10], ⟨0, .and, .indirectIndexed, .two, [0x10], false⟩, 2),
    ([0x49, 0x05], ⟨0, .eor, .immediate, .two, [0x05], false⟩, 2),
    ([0x45, 0x10], ⟨0, .eor, .zeroPage, .two, [0x10], false⟩, 2),
    ([0x55, 0x10], ⟨0, .eor, .zeroPageX, .two, [0x10], false⟩, 2),
    ([0x4D, 0x00, 0x20], ⟨0, .eor, .absolute, .three, [0x00, 0x20], false⟩, 3),
    ([0x5D, 0x00, 0x20], ⟨0, .eor, .absoluteX, .three, [0x00, 0x20], false⟩, 3),
    ([0x59, 0x00, 0x20], ⟨0, .eor, .absoluteY, .three, [0x00, 0x20], false⟩, 3),
    ([0x41, 0x10], ⟨0, .eor, .indexedIndirect, .two, [0x10], false⟩, 2),
    ([0x51, 0x10], ⟨0, .eor, .indirectIndexed, .two, [0x10], false⟩, 2)] ++
  [
    ([0x09, 0x05], ⟨0, .ora, .immediate, .two, [0x05], false⟩, 2),
    ([0x05, 0x10], ⟨0, .ora, .zeroPage, .two, [0x10], false⟩, 2),
    ([0x15, 0x10], ⟨0, .ora, .zeroPageX, .two, [0x10], false⟩, 2),
    ([0x0D, 0x00, 0x20], ⟨0, .ora, .absolute, .three, [0x00, 0x20], false⟩, 3),
    ([0x1D, 0x00, 0x20], ⟨0, .ora, .absoluteX, .three, [0x00, 0x20], false⟩, 3),
    ([0x19, 0x00, 0x20], ⟨0, .ora, .absoluteY, .three, [0x00, 0x20], false⟩, 3),
    ([0x01, 0x10], ⟨0, .ora, .indexedIndirect, .two, [0x10], false⟩, 2),
    ([0x11, 0x10], ⟨0, .ora, .indirectIndexed, .two, [0x10], false⟩, 2),
    ([0x24, 0x10], ⟨0, .bit, .zeroPage, .two, [0x10], false⟩, 2),
    ([0x2C, 0x00, 0x20], ⟨0, .bit, .absolute, .three, [0x00, 0x20], false⟩, 3),
    ([0x69, 0x05], ⟨0, .adc, .immediate, .two, [0x05], false⟩, 2),
    ([0x65, 0x10], ⟨0, .adc, .zeroPage, .two, [0x10], false⟩, 2),
    ([0x75, 0x10], ⟨0, .adc, .zeroPageX, .two, [0x10], false⟩, 2),
    ([0x6D, 0x00, 0x20], ⟨0, .adc, .absolute, .three, [0x00, 0x20], false⟩, 3),
    ([0x7D, 0x00, 0x20], ⟨0, .adc, .absoluteX, .three, [0x00, 0x20], false⟩, 3),
    ([0x79, 0x00, 0x20], ⟨0, .adc, .absoluteY, .three, [0x00, 0x20], false⟩, 3)] ++
  [
    ([0x61, 0x10], ⟨0, .adc, .indexedIndirect, .two, [0x10], false⟩, 2),
    ([0x71, 0x10], ⟨0, .adc, .indirectIndexed, .two, [0x10], false⟩, 2),
    ([0xE9, 0x05], ⟨0, .sbc, .immediate, .two, [0x05], false⟩, 2),
    ([0xE5, 0x10], ⟨0, .sbc, .zeroPage, .two, [0x10], false⟩, 2),
    ([0xF5, 0x10], ⟨0, .sbc, .zeroPageX, .two, [0x10], false⟩, 2),
    ([0xED, 0x00, 0x20], ⟨0, .sbc, .absolute, .three, [0x00, 0x20], false⟩, 3),
    ([0xFD, 0x00, 0x20], ⟨0, .sbc, .absoluteX, .three, [0x00, 0x20], false⟩, 3),
    ([0xF9, 0x00, 0x20], ⟨0, .sbc, .absoluteY, .three, [0x00, 0x20], false⟩, 3),
    ([0xE1, 0x10], ⟨0, .sbc, .indexedIndirect, .two, [0x10], false⟩, 2),
    ([0xF1, 0x10], ⟨0, .sbc, .indirectIndexed, .two, [0x10], false⟩, 2),
    ([0xC9, 0x05], ⟨0, .cmp, .immediate, .two, [0x05], false⟩, 2),
    ([0xC5, 0x10], ⟨0, .cmp, .zeroPage, .two, [0x10], false⟩, 2),
    ([0xD5, 0x10], ⟨0, .cmp, .zeroPageX, .two, [0x10], false⟩, 2),
    ([0xCD, 0x00, 0x20], ⟨0, .cmp, .absolute, .three, [0x00, 0x20], false⟩, 3),
    ([0xDD, 0x00, 0x20], ⟨0, .cmp, .absoluteX, .three, [0x00, 0x20], false⟩, 3),
    ([0xD9, 0x00, 0x20], ⟨0, .cmp, .absoluteY, .three, [0x00, 0x20], false⟩, 3)] ++
  [
    ([0xC1, 0x10], ⟨0, .cmp, .indexedIndirect, .two, [0x10], false⟩, 2),
    ([0xD1, 0x10], ⟨0, .cmp, .indirectIndexed, .two, [0x10], false⟩, 2),
    ([0xE0, 0x05], ⟨0, .cpx, .immediate, .two, [0x05], false⟩, 2),
    ([0xE4, 0x10], ⟨0, .cpx, .zeroPage, .two, [0x10], false⟩, 2),
    ([0xEC, 0x00, 0x20], ⟨0, .cpx, .absolute, .three, [0x00, 0x20], false⟩, 3),
    ([0xC0, 0x05], ⟨0, .cpy, .immediate, .two, [0x05], false⟩, 2),
    ([0xC4, 0x10], ⟨0, .cpy, .zeroPage, .two, [0x10], false⟩, 2),
    ([0xCC, 0x00, 0x20], ⟨0, .cpy, .absolute, .three, [0x00, 0x20], false⟩, 3)]

theorem test_examples_logic_arith_compare : examplesLogicArithCompare.all exampleHolds = true := by decide

/-- The worked examples of 44_incdec_shift.md, one per opcode: the buffer, the record, the cursor after. -/
def examplesIncDecShift : List (List Byte × Record × Nat) :=
  [
    ([0xE6, 0x10], ⟨0, .inc, .zeroPage, .two, [0x10], false⟩, 2),
    ([0xF6, 0x10], ⟨0, .inc, .zeroPageX, .two, [0x10], false⟩, 2),
    ([0xEE, 0x00, 0x20], ⟨0, .inc, .absolute, .three, [0x00, 0x20], false⟩, 3),
    ([0xFE, 0x00, 0x20], ⟨0, .inc, .absoluteX, .three, [0x00, 0x20], false⟩, 3),
    ([0xE8], ⟨0, .inx, .implied, .one, [], false⟩, 1),
    ([0xC8], ⟨0, .iny, .implied, .one, [], false⟩, 1),
    ([0xC6, 0x10], ⟨0, .dec, .zeroPage, .two, [0x10], false⟩, 2),
    ([0xD6, 0x10], ⟨0, .dec, .zeroPageX, .two, [0x10], false⟩, 2),
    ([0xCE, 0x00, 0x20], ⟨0, .dec, .absolute, .three, [0x00, 0x20], false⟩, 3),
    ([0xDE, 0x00, 0x20], ⟨0, .dec, .absoluteX, .three, [0x00, 0x20], false⟩, 3),
    ([0xCA], ⟨0, .dex, .implied, .one, [], false⟩, 1),
    ([0x88], ⟨0, .dey, .implied, .one, [], false⟩, 1),
    ([0x06, 0x10], ⟨0, .asl, .zeroPage, .two, [0x10], false⟩, 2),
    ([0x16, 0x10], ⟨0, .asl, .zeroPageX, .two, [0x10], false⟩, 2),
    ([0x0E, 0x00, 0x20], ⟨0, .asl, .absolute, .three, [0x00, 0x20], false⟩, 3),
    ([0x1E, 0x00, 0x20], ⟨0, .asl, .absoluteX, .three, [0x00, 0x20], false⟩, 3)] ++
  [
    ([0x0A], ⟨0, .asl, .accumulator, .one, [], false⟩, 1),
    ([0x46, 0x10], ⟨0, .lsr, .zeroPage, .two, [0x10], false⟩, 2),
    ([0x56, 0x10], ⟨0, .lsr, .zeroPageX, .two, [0x10], false⟩, 2),
    ([0x4E, 0x00, 0x20], ⟨0, .lsr, .absolute, .three, [0x00, 0x20], false⟩, 3),
    ([0x5E, 0x00, 0x20], ⟨0, .lsr, .absoluteX, .three, [0x00, 0x20], false⟩, 3),
    ([0x4A], ⟨0, .lsr, .accumulator, .one, [], false⟩, 1),
    ([0x26, 0x10], ⟨0, .rol, .zeroPage, .two, [0x10], false⟩, 2),
    ([0x36, 0x10], ⟨0, .rol, .zeroPageX, .two, [0x10], false⟩, 2),
    ([0x2E, 0x00, 0x20], ⟨0, .rol, .absolute, .three, [0x00, 0x20], false⟩, 3),
    ([0x3E, 0x00, 0x20], ⟨0, .rol, .absoluteX, .three, [0x00, 0x20], false⟩, 3),
    ([0x2A], ⟨0, .rol, .accumulator, .one, [], false⟩, 1),
    ([0x66, 0x10], ⟨0, .ror, .zeroPage, .two, [0x10], false⟩, 2),
    ([0x76, 0x10], ⟨0, .ror, .zeroPageX, .two, [0x10], false⟩, 2),
    ([0x6E, 0x00, 0x20], ⟨0, .ror, .absolute, .three, [0x00, 0x20], false⟩, 3),
    ([0x7E, 0x00, 0x20], ⟨0, .ror, .absoluteX, .three, [0x00, 0x20], false⟩, 3),
    ([0x6A], ⟨0, .ror, .accumulator, .one, [], false⟩, 1)]

theorem test_examples_incdec_shift : examplesIncDecShift.all exampleHolds = true := by decide

/-- The worked examples of 45_control.md, one per opcode: the buffer, the record, the cursor after. -/
def examplesControl : List (List Byte × Record × Nat) :=
  [
    ([0x4C, 0x00, 0x80], ⟨0, .jmp, .absolute, .three, [0x00, 0x80], false⟩, 3),
    ([0x6C, 0x00, 0x20], ⟨0, .jmp, .indirect, .three, [0x00, 0x20], false⟩, 3),
    ([0x20, 0x00, 0x20], ⟨0, .jsr, .absolute, .three, [0x00, 0x20], false⟩, 3),
    ([0x60], ⟨0, .rts, .implied, .one, [], false⟩, 1),
    ([0x00], ⟨0, .brk, .implied, .one, [], false⟩, 1),
    ([0x40], ⟨0, .rti, .implied, .one, [], false⟩, 1),
    ([0x90, 0xFE], ⟨0, .bcc, .relative, .two, [0xFE], false⟩, 2),
    ([0xB0, 0xFE], ⟨0, .bcs, .relative, .two, [0xFE], false⟩, 2),
    ([0xF0, 0xFE], ⟨0, .beq, .relative, .two, [0xFE], false⟩, 2),
    ([0x30, 0xFE], ⟨0, .bmi, .relative, .two, [0xFE], false⟩, 2),
    ([0xD0, 0xFE], ⟨0, .bne, .relative, .two, [0xFE], false⟩, 2),
    ([0x10, 0xFE], ⟨0, .bpl, .relative, .two, [0xFE], false⟩, 2),
    ([0x50, 0xFE], ⟨0, .bvc, .relative, .two, [0xFE], false⟩, 2),
    ([0x70, 0xFE], ⟨0, .bvs, .relative, .two, [0xFE], false⟩, 2)]

theorem test_examples_control : examplesControl.all exampleHolds = true := by decide

/-- The worked examples of 46_flags_nop.md, one per opcode: the buffer, the record, the cursor after. -/
def examplesFlagsNop : List (List Byte × Record × Nat) :=
  [
    ([0x18], ⟨0, .clc, .implied, .one, [], false⟩, 1),
    ([0xD8], ⟨0, .cld, .implied, .one, [], false⟩, 1),
    ([0x58], ⟨0, .cli, .implied, .one, [], false⟩, 1),
    ([0xB8], ⟨0, .clv, .implied, .one, [], false⟩, 1),
    ([0x38], ⟨0, .sec, .implied, .one, [], false⟩, 1),
    ([0xF8], ⟨0, .sed, .implied, .one, [], false⟩, 1),
    ([0x78], ⟨0, .sei, .implied, .one, [], false⟩, 1),
    ([0xEA], ⟨0, .nop, .implied, .one, [], false⟩, 1)]

theorem test_examples_flags_nop : examplesFlagsNop.all exampleHolds = true := by decide

theorem test_example_undefined : exampleHolds ([0xFF], ⟨0, .unk, .unknown, .one, [], false⟩, 1) = true := by decide

/-! ### Walker vectors (95_test_vectors.md sections 1 and 3), one step each -/

/-- L1-5: LDA immediate with no operand byte. -/
theorem test_L1_5 : nextIs (step (loaded [0xA9])) (fun t =>
    decide (t.out = [⟨0, .lda, .immediate, .two, [], true⟩]) && t.trunc && decide (t.cursor = 0) && t.done) = true := by decide

/-- L1-6: the empty buffer. -/
theorem test_L1_6 : (loaded []).done = true ∧ (loaded []).out = [] := by decide

/-- L1-7: the second step of LDA #$05; BRK, from the state the vector gives. -/
theorem test_L1_7_second_step :
    nextIs (step { loaded [0xA9, 0x05, 0x00] with cursor := 2, out := [⟨0, .lda, .immediate, .two, [0x05], false⟩] }) (fun t =>
      decide (t.out.getLast? = some ⟨2, .brk, .implied, .one, [], false⟩) && decide (t.cursor = 3) && !t.trunc && t.done) = true := by
  decide

/-- W4: a relative offset passes through raw. -/
theorem test_W4 : exampleHolds ([0xD0, 0x80], ⟨0, .bne, .relative, .two, [0x80], false⟩, 2) = true := by decide

/-- W6: length 3 with one operand byte available. -/
theorem test_W6 : nextIs (step (loaded [0x20, 0xD2])) (fun t =>
    decide (t.out = [⟨0, .jsr, .absolute, .three, [0xD2], true⟩]) && t.trunc && decide (t.cursor = 0)) = true := by decide

/-- W14, its last step: the cursor reaches 65536, which needs the 17th bit. -/
theorem test_W14_last_step :
    nextIs (step { State.reset with n := 65536, bufLen := 65536, buf := [(65535, 0xEA)], cursor := 65535 }) (fun t =>
      decide (t.cursor.toNat = 65536) && t.done && !t.trunc) = true := by decide

/-- W15, its last step: the length check does not wrap. -/
theorem test_W15_last_step :
    nextIs (step { State.reset with n := 65536, bufLen := 65536, buf := [(65535, 0x20)], cursor := 65535 }) (fun t =>
      decide (t.cursor.toNat = 65535) && t.trunc && decide (t.out = [⟨65535, .jsr, .absolute, .three, [], true⟩])) = true := by
  decide

/-- W16: no step from the final state. -/
theorem test_W16 : nextIs (step { loaded [0xEA] with cursor := 1 }) (fun t => decide (t = { loaded [0xEA] with cursor := 1 })) = true := by
  decide

/-- W17: a start in the middle of a run. -/
theorem test_W17 :
    ({ loaded [0xA9, 0x05, 0x00] with cursor := 2, out := [⟨0, .lda, .immediate, .two, [0x05], false⟩] } : State).raiseStart =
      loaded [0xA9, 0x05, 0x00] := by decide

/-- W18: a host change of B or N, and N = 65537. -/
theorem test_W18 :
    refusedAs (step ((loaded [0xA9, 0x05]).hostWrite 1 0x06)) .hostChangedRun = true ∧
    refusedAs (step ((loaded [0xA9, 0x05]).hostSetLen 1)) .hostChangedRun = true ∧
    refusedAs (step (State.reset.hostSetLen 65537).raiseStart) .bufferTooLarge = true := by decide

/-- W19: the operand lanes of a complete, a truncated and a 1-byte record. -/
theorem test_W19 :
    nextIs (step (loaded [0x9D, 0x00, 0xD8])) (fun t => decide ((recPort t).map (fun r => (r.lane 0, r.lane 1)) = some (some 0x00, some 0xD8))) = true ∧
    nextIs (step (loaded [0x20, 0xD2])) (fun t => decide ((recPort t).map (fun r => (r.lane 0, r.lane 1)) = some (some 0xD2, none))) = true ∧
    nextIs (step (loaded [0xEA])) (fun t => decide ((recPort t).map (fun r => (r.lane 0, r.lane 1)) = some (none, none))) = true := by
  decide

/-- The reads issued in W6, L1-10 and L1-9. -/
theorem test_reads : bufAddrs (loaded [0x20, 0xD2]) = [0, 1] ∧ bufAddrs (loaded [0x4C]) = [0] ∧
    bufAddrs (loaded [0x4C, 0x00, 0x80]) = [0, 1, 2] := by decide

/-- L1-9: the ports in the step, and the 16-bit value $8000. -/
theorem test_L1_9_ports : romAddr (loaded [0x4C, 0x00, 0x80]) = some 0x4C ∧ romWordPort (loaded [0x4C, 0x00, 0x80]) = some 0x6E3 ∧
    nextIs (step (loaded [0x4C, 0x00, 0x80])) (fun t => decide ((recPort t).bind Record.operand16 = some 0x8000) && recValid t &&
      doneOut t && !truncOut t) = true := by decide

/-- P1: the record after the backward branch at offset 8 starts at offset 10. -/
theorem test_P1_branch_not_followed :
    nextIs (step { loaded [0xA2, 0x00, 0xA9, 0x01, 0x9D, 0x00, 0xD8, 0xE8, 0xD0, 0xF8, 0x60] with cursor := 8 }) (fun t =>
      decide (t.out = [⟨8, .bne, .relative, .two, [0xF8], false⟩]) && decide (t.cursor = 10)) = true := by decide

/-- L1-11: the rendered fields, but for the open tag. -/
theorem test_L1_11 :
    (Record.fields ⟨2, .brk, .implied, .one, [], false⟩).head? = some "0002" ∧
    (Record.fields ⟨0x1A2B, .sta, .absoluteX, .three, [0xD8, 0x0F], false⟩).drop 2 = ["d8", "0f", "STA"] ∧
    offsetText 0x1A2B = "1a2b" ∧ offsetText 0xFFFF = "ffff" ∧ offsetText 0 = "0000" ∧ byteText 0x05 = "05" := by decide

/-- An instruction placed at reset is the one the first step runs. -/
theorem test_placed_after_reset :
    nextIs (step (State.reset.withFetchWord 24 0x80004C)) (fun t =>
      decide (t.out = [⟨0, .jmp, .absolute, .three, [0x00, 0x80], false⟩])) = true ∧
    nextIs (step (State.reset.withFetchWord 8 0x4C)) (fun t =>
      decide (t.out = [⟨0, .jmp, .absolute, .three, [0x00, 0x00], false⟩])) = true := by decide

/-- A host that changes N, or a byte, and changes it back has still broken the run (70 R436); a start begins a new one. -/
theorem test_change_back_stays_broken :
    refusedAs (step (((loaded [0xA9, 0x05]).hostSetLen 1).hostSetLen 2)) .hostChangedRun = true ∧
    refusedAs (step (((loaded [0xA9, 0x05]).hostWrite 1 0x06).hostWrite 1 0x05)) .hostChangedRun = true ∧
    (((loaded [0xA9, 0x05]).hostSetLen 1).hostSetLen 2).raiseStart = loaded [0xA9, 0x05] := by decide

/-! ### The buffer's list -/

theorem test_write_zero_unlists : Memory.write [(3, 1), (5, 2)] 3 0 = [(5, 2)] ∧ Memory.write [(3, 1)] 2 7 = [(2, 7), (3, 1)] := by decide

/-! ### Witnesses: states and operands that meet the hypotheses of each statement -/

/-- A run that has ended truncated: P5's last state. -/
def endedCut : State :=
  { loaded [0x18, 0x69, 0x01, 0x8D] with
    cursor := 3
    trunc := true
    out := [⟨0, .clc, .implied, .one, [], false⟩, ⟨1, .adc, .immediate, .two, [0x01], false⟩, ⟨3, .sta, .absolute, .three, [], true⟩] }

/-- A run that has ended complete: W1's last state. -/
def endedWhole : State := { loaded [0xEA] with cursor := 1, out := [⟨0, .nop, .implied, .one, [], false⟩] }

/-- A run under way: L1-7 after its first step. -/
def underWay : State := { loaded [0xA9, 0x05, 0x00] with cursor := 2, out := [⟨0, .lda, .immediate, .two, [0x05], false⟩] }

theorem witness_DecodeOfEncodedInstruction : Instr.ldaImm.wellFormed = true ∧ (Instr.unk 0xFF).wellFormed = true := by decide

theorem witness_FieldCodes : (57 : Fin 64).val = 57 ∧ (63 : Fin 64).val = 63 ∧ (14 : Fin 16).val = 14 ∧ (15 : Fin 16).val = 15 := by
  decide

theorem witness_UndefinedBytesAreUnknown : (0x02 : Byte) ∈ undefinedOpcodes ∧ (0xFF : Byte) ∈ undefinedOpcodes := by decide

theorem witness_LdaOpcodes :
    WholeInstr ⟨.lda, .immediate, .two⟩ (loaded [0xA9, 0x10]) [0x10] ∧
    CutInstr ⟨.lda, .immediate, .two⟩ (loaded [0xA9]) [] ∧
    WholeInstr ⟨.lda, .absolute, .three⟩ (loaded [0xAD, 0x10, 0x20]) [0x10, 0x20] ∧
    CutInstr ⟨.lda, .absolute, .three⟩ (loaded [0xAD]) [] ∧
    CutInstr ⟨.lda, .absolute, .three⟩ (loaded [0xAD, 0x10]) [0x10] := by decide

theorem witness_LdxLdyOpcodes :
    WholeInstr ⟨.ldx, .immediate, .two⟩ (loaded [0xA2, 0x10]) [0x10] ∧
    CutInstr ⟨.ldx, .immediate, .two⟩ (loaded [0xA2]) [] ∧
    WholeInstr ⟨.ldx, .absolute, .three⟩ (loaded [0xAE, 0x10, 0x20]) [0x10, 0x20] ∧
    CutInstr ⟨.ldx, .absolute, .three⟩ (loaded [0xAE]) [] ∧
    CutInstr ⟨.ldx, .absolute, .three⟩ (loaded [0xAE, 0x10]) [0x10] := by decide

theorem witness_StoreOpcodes :
    WholeInstr ⟨.sta, .zeroPage, .two⟩ (loaded [0x85, 0x10]) [0x10] ∧
    CutInstr ⟨.sta, .zeroPage, .two⟩ (loaded [0x85]) [] ∧
    WholeInstr ⟨.sta, .absolute, .three⟩ (loaded [0x8D, 0x10, 0x20]) [0x10, 0x20] ∧
    CutInstr ⟨.sta, .absolute, .three⟩ (loaded [0x8D]) [] ∧
    CutInstr ⟨.sta, .absolute, .three⟩ (loaded [0x8D, 0x10]) [0x10] := by decide

theorem witness_StxStyOpcodes :
    WholeInstr ⟨.stx, .zeroPage, .two⟩ (loaded [0x86, 0x10]) [0x10] ∧
    CutInstr ⟨.stx, .zeroPage, .two⟩ (loaded [0x86]) [] ∧
    WholeInstr ⟨.stx, .absolute, .three⟩ (loaded [0x8E, 0x10, 0x20]) [0x10, 0x20] ∧
    CutInstr ⟨.stx, .absolute, .three⟩ (loaded [0x8E]) [] ∧
    CutInstr ⟨.stx, .absolute, .three⟩ (loaded [0x8E, 0x10]) [0x10] := by decide

theorem witness_TransferOpcodes :
    WholeInstr ⟨.tax, .implied, .one⟩ (loaded [0xAA]) [] := by decide

theorem witness_StackOpcodes :
    WholeInstr ⟨.pha, .implied, .one⟩ (loaded [0x48]) [] := by decide

theorem witness_AndBitOpcodes :
    WholeInstr ⟨.and, .immediate, .two⟩ (loaded [0x29, 0x10]) [0x10] ∧
    CutInstr ⟨.and, .immediate, .two⟩ (loaded [0x29]) [] ∧
    WholeInstr ⟨.and, .absolute, .three⟩ (loaded [0x2D, 0x10, 0x20]) [0x10, 0x20] ∧
    CutInstr ⟨.and, .absolute, .three⟩ (loaded [0x2D]) [] ∧
    CutInstr ⟨.and, .absolute, .three⟩ (loaded [0x2D, 0x10]) [0x10] := by decide

theorem witness_EorOpcodes :
    WholeInstr ⟨.eor, .immediate, .two⟩ (loaded [0x49, 0x10]) [0x10] ∧
    CutInstr ⟨.eor, .immediate, .two⟩ (loaded [0x49]) [] ∧
    WholeInstr ⟨.eor, .absolute, .three⟩ (loaded [0x4D, 0x10, 0x20]) [0x10, 0x20] ∧
    CutInstr ⟨.eor, .absolute, .three⟩ (loaded [0x4D]) [] ∧
    CutInstr ⟨.eor, .absolute, .three⟩ (loaded [0x4D, 0x10]) [0x10] := by decide

theorem witness_OraOpcodes :
    WholeInstr ⟨.ora, .immediate, .two⟩ (loaded [0x09, 0x10]) [0x10] ∧
    CutInstr ⟨.ora, .immediate, .two⟩ (loaded [0x09]) [] ∧
    WholeInstr ⟨.ora, .absolute, .three⟩ (loaded [0x0D, 0x10, 0x20]) [0x10, 0x20] ∧
    CutInstr ⟨.ora, .absolute, .three⟩ (loaded [0x0D]) [] ∧
    CutInstr ⟨.ora, .absolute, .three⟩ (loaded [0x0D, 0x10]) [0x10] := by decide

theorem witness_AdcOpcodes :
    WholeInstr ⟨.adc, .immediate, .two⟩ (loaded [0x69, 0x10]) [0x10] ∧
    CutInstr ⟨.adc, .immediate, .two⟩ (loaded [0x69]) [] ∧
    WholeInstr ⟨.adc, .absolute, .three⟩ (loaded [0x6D, 0x10, 0x20]) [0x10, 0x20] ∧
    CutInstr ⟨.adc, .absolute, .three⟩ (loaded [0x6D]) [] ∧
    CutInstr ⟨.adc, .absolute, .three⟩ (loaded [0x6D, 0x10]) [0x10] := by decide

theorem witness_SbcOpcodes :
    WholeInstr ⟨.sbc, .immediate, .two⟩ (loaded [0xE9, 0x10]) [0x10] ∧
    CutInstr ⟨.sbc, .immediate, .two⟩ (loaded [0xE9]) [] ∧
    WholeInstr ⟨.sbc, .absolute, .three⟩ (loaded [0xED, 0x10, 0x20]) [0x10, 0x20] ∧
    CutInstr ⟨.sbc, .absolute, .three⟩ (loaded [0xED]) [] ∧
    CutInstr ⟨.sbc, .absolute, .three⟩ (loaded [0xED, 0x10]) [0x10] := by decide

theorem witness_CmpOpcodes :
    WholeInstr ⟨.cmp, .immediate, .two⟩ (loaded [0xC9, 0x10]) [0x10] ∧
    CutInstr ⟨.cmp, .immediate, .two⟩ (loaded [0xC9]) [] ∧
    WholeInstr ⟨.cmp, .absolute, .three⟩ (loaded [0xCD, 0x10, 0x20]) [0x10, 0x20] ∧
    CutInstr ⟨.cmp, .absolute, .three⟩ (loaded [0xCD]) [] ∧
    CutInstr ⟨.cmp, .absolute, .three⟩ (loaded [0xCD, 0x10]) [0x10] := by decide

theorem witness_CpxCpyOpcodes :
    WholeInstr ⟨.cpx, .immediate, .two⟩ (loaded [0xE0, 0x10]) [0x10] ∧
    CutInstr ⟨.cpx, .immediate, .two⟩ (loaded [0xE0]) [] ∧
    WholeInstr ⟨.cpx, .absolute, .three⟩ (loaded [0xEC, 0x10, 0x20]) [0x10, 0x20] ∧
    CutInstr ⟨.cpx, .absolute, .three⟩ (loaded [0xEC]) [] ∧
    CutInstr ⟨.cpx, .absolute, .three⟩ (loaded [0xEC, 0x10]) [0x10] := by decide

theorem witness_IncrementOpcodes :
    WholeInstr ⟨.inx, .implied, .one⟩ (loaded [0xE8]) [] ∧
    WholeInstr ⟨.inc, .zeroPage, .two⟩ (loaded [0xE6, 0x10]) [0x10] ∧
    CutInstr ⟨.inc, .zeroPage, .two⟩ (loaded [0xE6]) [] ∧
    WholeInstr ⟨.inc, .absolute, .three⟩ (loaded [0xEE, 0x10, 0x20]) [0x10, 0x20] ∧
    CutInstr ⟨.inc, .absolute, .three⟩ (loaded [0xEE]) [] ∧
    CutInstr ⟨.inc, .absolute, .three⟩ (loaded [0xEE, 0x10]) [0x10] := by decide

theorem witness_DecrementOpcodes :
    WholeInstr ⟨.dex, .implied, .one⟩ (loaded [0xCA]) [] ∧
    WholeInstr ⟨.dec, .zeroPage, .two⟩ (loaded [0xC6, 0x10]) [0x10] ∧
    CutInstr ⟨.dec, .zeroPage, .two⟩ (loaded [0xC6]) [] ∧
    WholeInstr ⟨.dec, .absolute, .three⟩ (loaded [0xCE, 0x10, 0x20]) [0x10, 0x20] ∧
    CutInstr ⟨.dec, .absolute, .three⟩ (loaded [0xCE]) [] ∧
    CutInstr ⟨.dec, .absolute, .three⟩ (loaded [0xCE, 0x10]) [0x10] := by decide

theorem witness_ShiftOpcodes :
    WholeInstr ⟨.asl, .accumulator, .one⟩ (loaded [0x0A]) [] ∧
    WholeInstr ⟨.asl, .zeroPage, .two⟩ (loaded [0x06, 0x10]) [0x10] ∧
    CutInstr ⟨.asl, .zeroPage, .two⟩ (loaded [0x06]) [] ∧
    WholeInstr ⟨.asl, .absolute, .three⟩ (loaded [0x0E, 0x10, 0x20]) [0x10, 0x20] ∧
    CutInstr ⟨.asl, .absolute, .three⟩ (loaded [0x0E]) [] ∧
    CutInstr ⟨.asl, .absolute, .three⟩ (loaded [0x0E, 0x10]) [0x10] := by decide

theorem witness_RotateOpcodes :
    WholeInstr ⟨.rol, .accumulator, .one⟩ (loaded [0x2A]) [] ∧
    WholeInstr ⟨.rol, .zeroPage, .two⟩ (loaded [0x26, 0x10]) [0x10] ∧
    CutInstr ⟨.rol, .zeroPage, .two⟩ (loaded [0x26]) [] ∧
    WholeInstr ⟨.rol, .absolute, .three⟩ (loaded [0x2E, 0x10, 0x20]) [0x10, 0x20] ∧
    CutInstr ⟨.rol, .absolute, .three⟩ (loaded [0x2E]) [] ∧
    CutInstr ⟨.rol, .absolute, .three⟩ (loaded [0x2E, 0x10]) [0x10] := by decide

theorem witness_JumpOpcodes :
    WholeInstr ⟨.rts, .implied, .one⟩ (loaded [0x60]) [] ∧
    WholeInstr ⟨.jmp, .absolute, .three⟩ (loaded [0x4C, 0x10, 0x20]) [0x10, 0x20] ∧
    CutInstr ⟨.jmp, .absolute, .three⟩ (loaded [0x4C]) [] ∧
    CutInstr ⟨.jmp, .absolute, .three⟩ (loaded [0x4C, 0x10]) [0x10] := by decide

theorem witness_BranchOpcodes :
    WholeInstr ⟨.bcc, .relative, .two⟩ (loaded [0x90, 0x10]) [0x10] ∧
    CutInstr ⟨.bcc, .relative, .two⟩ (loaded [0x90]) [] := by decide

theorem witness_FlagOpcodes :
    WholeInstr ⟨.clc, .implied, .one⟩ (loaded [0x18]) [] := by decide

theorem witness_UndefinedOpcodeBytes :
    (0x02 : Byte) ∈ undefinedOpcodes ∧ (loaded [0x02]).trunc = false ∧ (loaded [0x02]).cursor.toNat < (loaded [0x02]).n.toNat ∧
    WholeInstr ⟨.unk, .unknown, .one⟩ (loaded [0x02]) [] := by decide

/-- An unbroken run that is not done, with a byte at its cursor: StepRunsDecodedInstruction, WalkerStep (the complete branch),
WalkerNeverFails, StepAppendsOneRecord, CursorAdvance, OperandLanes. -/
theorem witness_enabled_whole :
    underWay.Unbroken ∧ underWay.trunc = false ∧ underWay.done = false ∧ bufRead underWay underWay.cursor.toNat = some 0x00 ∧
    decode [0x00, 0xEA] = .ok (.brkImp, [0xEA]) ∧ WholeInstr (rom 0x00) underWay [] := by
  refine ⟨⟨rfl, by decide, rfl⟩, rfl, by decide, by decide, rfl, by decide⟩

/-- WalkerStep, the truncated branch, and the truncated clause of CursorAdvance: the buffer ends within the instruction. -/
theorem witness_enabled_cut :
    (loaded [0x20, 0xD2]).Unbroken ∧ (loaded [0x20, 0xD2]).done = false ∧ bufRead (loaded [0x20, 0xD2]) 0 = some 0x20 ∧
    CutInstr (rom 0x20) (loaded [0x20, 0xD2]) [0xD2] := by
  refine ⟨⟨rfl, by decide, rfl⟩, by decide, by decide, by decide⟩

theorem witness_DoneHoldsState : endedCut.hostChanged = false ∧ endedCut.n.toNat ≤ nMax ∧ endedCut.done = true ∧
    endedWhole.done = true ∧ endedWhole.n.toNat ≤ endedWhole.cursor.toNat := by decide

/-- Each clause of BrokenRunHasNoStep, the second at the least length above `N_MAX`, the last at `N_MAX`. -/
theorem witness_BrokenRunHasNoStep :
    (underWay.hostWrite 1 0x06).hostChanged = true ∧
    ({ State.reset with n := 65537 } : State).hostChanged = false ∧ nMax < ({ State.reset with n := 65537 } : State).n.toNat ∧
    ({ underWay with bufLen := 2 } : State).hostChanged = false ∧ ({ underWay with bufLen := 2 } : State).n.toNat ≤ nMax ∧
    ({ underWay with bufLen := 2 } : State).done = false ∧ ({ underWay with bufLen := 2 } : State).bufLen ≠ underWay.n ∧
    (State.reset.hostSetLen 65536).bufLen.toNat ≤ nMax := by decide

/-- Each clause of HostChangeBreaksRun, the first at the last offset of the buffer and the third at the first offset above it. -/
theorem witness_HostChangeBreaksRun :
    underWay.done = false ∧ 2 < underWay.n.toNat ∧ underWay.buf.read 2 ≠ 0x01 ∧ (4 : Offset) ≠ underWay.n ∧
    endedWhole.done = true ∧ underWay.n.toNat ≤ 3 ∧ underWay.buf.read 1 = 0x05 ∧ (3 : Offset) = underWay.n ∧
    (underWay.hostWrite 1 0x06).hostChanged = true ∧ (underWay.hostSetLen 4).hostChanged = true := by decide

theorem witness_LaunchLoadsBuffer : State.reset.buf.wf = true ∧ underWay.buf.wf = true ∧ ([0xA9, 0x05] : List Byte).length ≤ nMax := by decide

theorem witness_EmptyBufferEmitsNothing : State.reset.bufLen = 0 ∧ (underWay.hostSetLen 0).bufLen = 0 := by decide

theorem witness_PlacedInstructionRuns : underWay.buf.wf = true ∧ nextIs (step (underWay.withFetchWord 8 0x8D)) (fun t =>
    decide (t.out.length = 2) && decide (t.cursor = 5)) = true := by decide

/-- ExecFrame and BufferNeverWritten: an execution and a step that answer a next state. -/
theorem witness_ExecFrame : (∃ t, exec .staAbs (loaded [0x8D, 0x00, 0x04]) = .next t) ∧ ∃ t, step (loaded [0x8D, 0x00, 0x04]) = .next t :=
  ⟨⟨_, rfl⟩, ⟨_, rfl⟩⟩

/-- Each clause of TruncSetOnlyByTruncation. -/
theorem witness_TruncSetOnlyByTruncation :
    endedCut.trunc = true ∧ nextIs (step endedCut) (fun t => decide (t = endedCut)) = true ∧
    (loaded [0xA9]).trunc = false ∧ nextIs (step (loaded [0xA9])) (fun t => t.trunc) = true ∧
    (loaded [0xEA]).trunc = false ∧ nextIs (step (loaded [0xEA])) (fun t => !t.trunc) = true := by decide

theorem witness_LowByteFirst :
    (loaded [0x4C, 0x00, 0x80]).Unbroken ∧ (loaded [0x4C, 0x00, 0x80]).trunc = false ∧
    bufRead (loaded [0x4C, 0x00, 0x80]) 0 = some 0x4C ∧ (rom 0x4C).len = .three ∧
    bufRead (loaded [0x4C, 0x00, 0x80]) 1 = some 0x00 ∧ bufRead (loaded [0x4C, 0x00, 0x80]) 2 = some 0x80 := by
  refine ⟨⟨rfl, by decide, rfl⟩, rfl, by decide, by decide, by decide, by decide⟩

/-- A buffer that differs only at offsets the step does not read. -/
theorem witness_BytesNotReadDoNotMatter :
    (∀ a ∈ bufAddrs (loaded [0xA9, 0x05, 0x00]), Memory.read [(0, 0xA9), (1, 0x05), (2, 0x77), (9, 0x88)] a =
      (loaded [0xA9, 0x05, 0x00]).buf.read a) ∧ (∃ t, step (loaded [0xA9, 0x05, 0x00]) = .next t) := by
  refine ⟨by decide, ⟨_, rfl⟩⟩

/-- OutcomeClasses: a complete, an unknown and a truncated one. -/
theorem witness_OutcomeClasses :
    (loaded [0xEA]).Unbroken ∧ bufRead (loaded [0xEA]) 0 = some 0xEA ∧ (0xEA : Byte) ∉ undefinedOpcodes ∧
    (loaded [0x02]).Unbroken ∧ bufRead (loaded [0x02]) 0 = some 0x02 ∧ (0x02 : Byte) ∈ undefinedOpcodes ∧
    (loaded [0xA9]).Unbroken ∧ bufRead (loaded [0xA9]) 0 = some 0xA9 ∧ (loaded [0xA9]).n.toNat < 0 + (rom 0xA9).len.toNat := by
  refine ⟨⟨rfl, by decide, rfl⟩, by decide, by decide, ⟨rfl, by decide, rfl⟩, by decide, by decide,
    ⟨rfl, by decide, rfl⟩, by decide, by decide⟩

/-- StepKeepsInv, RunEmitsBufferRecords, RunTerminates: an unbroken run under way that meets the invariant and takes a step. -/
theorem witness_run_under_way : underWay.Unbroken ∧ underWay.Inv ∧ ∃ t, step underWay = .next t := by
  refine ⟨⟨rfl, by decide, rfl⟩, ⟨by decide, by decide, by decide, by decide⟩, ⟨_, rfl⟩⟩

/-- OffsetsGapless and BytesDecodedAtDone: done states that meet the invariant, one truncated and one complete. -/
theorem witness_done_states : endedCut.Inv ∧ endedCut.done = true ∧ endedCut.trunc = true ∧
    endedWhole.Inv ∧ endedWhole.done = true ∧ endedWhole.trunc = false := by
  refine ⟨⟨by decide, by decide, by decide, by decide⟩, by decide, by decide,
    ⟨by decide, by decide, by decide, by decide⟩, by decide, by decide⟩

theorem witness_HostKeepsCanonicalBuffer : underWay.buf.wf = true ∧ underWay.buf = [(0, 0xA9), (1, 0x05)] := by decide

/-- EncodedListingIsDecodedBack: instructions of each length, an undefined byte among them. -/
theorem witness_EncodedListingIsDecodedBack :
    (∀ p ∈ ([(.clcImp, []), (.unk 0xFF, []), (.adcImm, [0x01]), (.jmpInd, [0x14, 0x03])] : List (Instr × List Byte)),
      p.1.wellFormed = true ∧ p.2.length + 1 = (rom p.1.opcode).len.toNat) ∧
    (bytesOf [(.clcImp, []), (.unk 0xFF, []), (.adcImm, [0x01]), (.jmpInd, [0x14, 0x03])]).length ≤ nMax := by decide

theorem witness_SameBufferSameRecords : State.reset.buf.wf = true ∧ endedCut.buf.wf = true ∧ ([0x4C] : List Byte).length ≤ nMax := by decide

theorem witness_HexRendering : (0xFFFF : Offset).toNat < 65536 ∧ (0 : Offset).toNat < 65536 := by decide

end Sys2Proof.Tests
end

section
/-! SUPPORT. The record an enabled walker step emits, what a step of the model does in the terms of the buffer alone, and the state
statements of spec/10_state.md. -/

namespace Sys2Proof

/-- The instruction selected by an opcode byte has that byte as its opcode (R70, R82). -/
@[simp] theorem opcode_decodeOpcode (op : Byte) : (decodeOpcode op).opcode = op := by
  revert op
  decide

end Sys2Proof

namespace Sys2Proof.Machine

/-- The descriptor the ROM holds for the byte at the cursor. -/
def State.descriptorAtCursor (s : State) : Descriptor := rom (s.buf.read s.cursor.toNat)

/-- The record an enabled walker step with the descriptor `d` appends: `State.walked_out_eq` ties it to the step. -/
def State.emitted (s : State) (d : Descriptor) : Record :=
  recordOf d ((laneOffsets s.cursor.toNat (nops d s)).map s.buf.read) s

theorem State.walked_out_eq (s : State) (d : Descriptor) : (s.walked d).out = s.out ++ [s.emitted d] := s.walked_out d

@[simp] theorem State.emitted_off (s : State) (d : Descriptor) : (s.emitted d).off = s.cursor := rfl
@[simp] theorem State.emitted_mnem (s : State) (d : Descriptor) : (s.emitted d).mnem = d.mnem := rfl
@[simp] theorem State.emitted_mode (s : State) (d : Descriptor) : (s.emitted d).mode = d.mode := rfl
@[simp] theorem State.emitted_len (s : State) (d : Descriptor) : (s.emitted d).len = d.len := rfl
@[simp] theorem State.emitted_trunc (s : State) (d : Descriptor) : (s.emitted d).trunc = !fits d s := rfl

@[simp] theorem State.emitted_nops (s : State) (d : Descriptor) : (s.emitted d).nops = Machine.nops d s := by
  simp [State.emitted, recordOf, Record.nops, laneOffsets]

/-- The record is truncated exactly when the instruction runs past the end of the buffer (R100). -/
theorem State.emitted_trunc_iff (s : State) (d : Descriptor) :
    (s.emitted d).trunc = true ↔ s.n.toNat < s.cursor.toNat + d.len.toNat := by
  simp

/-- Whole or cut, an instruction has at most two operand bytes (R101). -/
theorem nops_le_two (d : Descriptor) (s : State) : nops d s ≤ 2 := by
  have hlen := d.len.toNat_le
  unfold nops
  split
  · omega
  · rename_i hcut
    rw [fits_eq_true] at hcut
    omega

/-- An operand lane in use lies within the buffer. -/
theorem lane_lt_of_enabled {d : Descriptor} {s : State} {k : Nat} (hd : s.done = false) (hk : k < nops d s) :
    s.cursor.toNat + 1 + k < s.n.toNat :=
  laneOffsets_lt (d := d) hd _ (List.mem_map.mpr ⟨k, List.mem_range.mpr hk, rfl⟩)

/-- Lane `k` of the record carries the buffer's byte after the opcode when it is in use, and no value otherwise (R101). -/
theorem State.emitted_lane {s : State} (d : Descriptor) (hd : s.done = false) (k : Nat) :
    (s.emitted d).lane k = if k < nops d s then bufRead s (s.cursor.toNat + 1 + k) else none := by
  split
  · next hk =>
    rw [bufRead_of_lt (lane_lt_of_enabled hd hk)]
    simp [Record.lane, State.emitted, recordOf, laneOffsets, hk]
  · next hk =>
    simpa [Record.lane, State.emitted, recordOf, laneOffsets] using hk

/-- A complete record advances the cursor by the instruction's length, without wrap: its end is within the buffer (R22, R100). -/
theorem State.walked_cursor_of_fits {s : State} {d : Descriptor} (hfits : fits d s = true) :
    (s.walked d).cursor.toNat = s.cursor.toNat + d.len.toNat := by
  have hend := fits_eq_true.mp hfits
  have hn := s.n.isLt
  simp only [State.walked_cursor, hfits, if_true, BitVec.toNat_ofNat]
  exact Nat.mod_eq_of_lt (by omega)

/-- A truncated record leaves the cursor where it is (R22, R100). -/
theorem State.walked_cursor_of_not_fits {s : State} {d : Descriptor} (hfits : fits d s = false) :
    (s.walked d).cursor = s.cursor := by
  simp [hfits]

/-- An enabled step of an unbroken run walks with the descriptor of the byte at the cursor (R100). -/
theorem step_of_enabled {s : State} (hu : s.Unbroken) (hd : s.done = false) :
    step s = .next (s.walked s.descriptorAtCursor) := by
  rw [step_of_not_refused (runRefusal_of_unbroken hu), opcode_decodeOpcode, hd]
  rfl

/-- `step_cases` in the terms of the buffer's byte: a step holds a done state, or walks with the descriptor at the cursor. -/
theorem step_held_or_walked {s t : State} (h : step s = .next t) :
    (s.done = true ∧ t = s) ∨ (s.done = false ∧ t = s.walked s.descriptorAtCursor) := by
  simpa only [opcode_decodeOpcode, State.descriptorAtCursor] using step_cases h

theorem State.done_of_trunc {s : State} (h : s.trunc = true) : s.done = true := by
  simp [State.done, h]

/-- A step that begins with `trunc` clear sets it exactly when the walker may step and its instruction does not fit (R24, R100). -/
theorem step_sets_trunc_iff {s t : State} (h : step s = .next t) (hclear : s.trunc = false) :
    t.trunc = true ↔ s.done = false ∧ fits s.descriptorAtCursor s = false := by
  obtain ⟨hd, rfl⟩ | ⟨hd, rfl⟩ := step_held_or_walked h
  · simp only [hclear, hd, Bool.false_eq_true, Bool.true_eq_false, false_and]
  · simp only [State.walked_trunc, hclear, hd, true_and]
    cases fits s.descriptorAtCursor s <;> decide

end Sys2Proof.Machine

namespace Sys2Proof.Proofs

open Sys2Proof.Machine

/-- Settles O42: the record is `State.emitted`, and an enabled step's cursor and operand lanes lie within the buffer. -/
theorem stepAppendsOneRecord : Obligations.StepAppendsOneRecord := by
  intro s hu hd
  have hopcode : bufRead s s.cursor.toNat = some (s.buf.read s.cursor.toNat) :=
    bufRead_of_lt (State.done_eq_false.mp hd).2
  refine ⟨_, s.emitted s.descriptorAtCursor, _, step_of_enabled hu hd, s.walked_out_eq _, hopcode, rfl, rfl, ?_, ?_,
    s.emitted_trunc_iff _⟩
  · rw [State.emitted_nops]
    exact nops_le_two _ s
  · intro k hk
    rw [State.emitted_nops] at hk
    rw [State.emitted_lane _ hd, if_pos hk]

/-- Settles O43: the two branches of the bounds test, which the record's `trunc` reports. -/
theorem cursorAdvance : Obligations.CursorAdvance := by
  intro s hu hd
  refine ⟨_, s.emitted s.descriptorAtCursor, step_of_enabled hu hd, s.walked_out_eq _, rfl,
    Len.toNat_pos _, Len.toNat_le _, fun hwhole => ?_, fun hcut => ?_⟩
  · exact State.walked_cursor_of_fits (by simpa only [State.emitted_trunc, Bool.not_eq_false'] using hwhole)
  · exact State.walked_cursor_of_not_fits (by simpa only [State.emitted_trunc, Bool.not_eq_true'] using hcut)

/-- Settles O44: a set `trunc` holds the walker done, and a clear one is set by the truncated branch of an enabled step alone. -/
theorem truncSetOnlyByTruncation : Obligations.TruncSetOnlyByTruncation := by
  refine ⟨fun s t h hset => ?_, fun s t h hclear => ?_, rfl, State.raiseStart_trunc⟩
  · obtain ⟨-, rfl⟩ | ⟨hd, -⟩ := step_held_or_walked h
    · rfl
    · rw [State.done_of_trunc hset] at hd
      cases hd
  · rw [step_sets_trunc_iff h hclear, State.done_eq_false, fits_eq_false]
    simp only [hclear, true_and, State.descriptorAtCursor]

end Sys2Proof.Proofs
end

section
/-! SUPPORT. No step writes what the host drives, and the buffer's reads depend on nothing else: the statement of
spec/20_memory.md. -/

namespace Sys2Proof.Machine

/-- What BufRead gives is decided by the buffer and its length N alone (R52). -/
theorem bufRead_congr {s t : State} (hbuf : t.buf = s.buf) (hn : t.n = s.n) (a : Nat) : bufRead t a = bufRead s a := by
  simp only [bufRead, hbuf, hn]

/-- The frame of a step: what the host drives and its refusal mark are kept, whether the step holds or walks (R54). -/
theorem step_keeps_host_fields {s t : State} (h : step s = .next t) :
    t.buf = s.buf ∧ t.n = s.n ∧ t.bufLen = s.bufLen ∧ t.hostChanged = s.hostChanged := by
  obtain ⟨-, rfl⟩ | ⟨-, rfl⟩ := step_held_or_walked h
  · exact ⟨rfl, rfl, rfl, rfl⟩
  · exact ⟨s.walked_buf _, s.walked_n _, s.walked_bufLen _, s.walked_hostChanged _⟩

end Sys2Proof.Machine

namespace Sys2Proof.Proofs

open Sys2Proof.Machine

/-- Settles O41: a step keeps the host's fields, and the reads of the buffer follow from them. -/
theorem bufferNeverWritten : Obligations.BufferNeverWritten := by
  intro s t h
  obtain ⟨hbuf, hn, hlen, hmark⟩ := step_keeps_host_fields h
  exact ⟨hbuf, hn, hlen, hmark, bufRead_congr hbuf hn⟩

end Sys2Proof.Proofs
end

section
/-! SUPPORT. A ROM word as the fields of its descriptor, the length an addressing mode fixes, and the undefined bytes of the map:
the statements of spec/30_encoding.md. -/

namespace Sys2Proof

@[simp] theorem Mnemonic.ofCode_code (m : Mnemonic) : Mnemonic.ofCode m.code = some m := by cases m <;> rfl

@[simp] theorem Mode.ofCode_code (a : Mode) : Mode.ofCode a.code = some a := by cases a <;> rfl

@[simp] theorem Len.ofCode_code (l : Len) : Len.ofCode l.code = some l := by cases l <;> rfl

/-- The mnemonic's code lies above the 4 bits of the mode and the 2 bits of the length (R77). -/
@[simp] theorem Descriptor.extractLsb'_toWord_mnem (d : Descriptor) : d.toWord.extractLsb' 6 6 = d.mnem.code := calc
  d.toWord.extractLsb' 6 6 = (d.mnem.code ++ d.mode.code).extractLsb' 4 6 := BitVec.extractLsb'_append_eq_of_le (by decide)
  _ = d.mnem.code := BitVec.extractLsb'_append_eq_left

/-- The mode's code lies above the 2 bits of the length and below the mnemonic's code (R77). -/
@[simp] theorem Descriptor.extractLsb'_toWord_mode (d : Descriptor) : d.toWord.extractLsb' 2 4 = d.mode.code := calc
  d.toWord.extractLsb' 2 4 = (d.mnem.code ++ d.mode.code).extractLsb' 0 4 := BitVec.extractLsb'_append_eq_of_le (by decide)
  _ = d.mode.code := BitVec.extractLsb'_append_eq_right

/-- The length is the lowest field (R77). -/
@[simp] theorem Descriptor.extractLsb'_toWord_len (d : Descriptor) : d.toWord.extractLsb' 0 2 = d.len.code :=
  BitVec.extractLsb'_append_eq_right

/-- Reading by fields undoes the layout of R77. -/
@[simp] theorem Descriptor.ofWord_toWord (d : Descriptor) : Descriptor.ofWord d.toWord = some d := by
  simp [Descriptor.ofWord]

/-- The words of R79 are the map of R78 in the layout of R77. -/
theorem romWord_eq_toWord : ∀ op : Byte, romWord op = (rom op).toWord := by decide

/-- The table invariant of R72. -/
theorem rom_len_eq_lenOfMode : ∀ op : Byte, (rom op).len = lenOfMode (rom op).mode := by decide

/-- The converse of `rom_undefined`: no documented byte holds the unknown descriptor (R80). -/
theorem mem_undefinedOpcodes_of_rom : ∀ op : Byte, rom op = unknownDescriptor → op ∈ undefinedOpcodes := by decide

theorem rom_eq_unknown_iff (op : Byte) : rom op = unknownDescriptor ↔ op ∈ undefinedOpcodes :=
  ⟨mem_undefinedOpcodes_of_rom op, fun h => rom_undefined op (List.contains_iff_mem.mpr h)⟩

theorem undefinedOpcodes_nodup : undefinedOpcodes.Nodup := by decide

end Sys2Proof

namespace Sys2Proof.Proofs

/-- Settles O4: the words are the descriptors in R77's layout, whose fields are read back from any word. -/
theorem romWordHoldsDescriptor : Obligations.RomWordHoldsDescriptor := by
  refine ⟨fun op => ?_, rfl, rfl, rfl, rfl⟩
  rw [romWord_eq_toWord]
  exact ⟨(rom op).extractLsb'_toWord_mnem, (rom op).extractLsb'_toWord_mode, (rom op).extractLsb'_toWord_len,
    (rom op).ofWord_toWord⟩

/-- Settles O5: the table invariant for the ROM, and LEN_OF_MODE mode by mode. -/
theorem modeFixesLength : Obligations.ModeFixesLength := by
  refine ⟨fun op => ⟨rom_len_eq_lenOfMode op, Len.toNat_pos _, Len.toNat_le _⟩, fun m => ?_⟩
  cases m <;> rfl

/-- Settles O8: the word of an undefined byte follows from its descriptor. -/
theorem undefinedBytesAreUnknown : Obligations.UndefinedBytesAreUnknown := by
  refine ⟨fun op => (rom_eq_unknown_iff op).symm, fun op hop => ?_, rfl, undefinedOpcodes_nodup⟩
  rw [romWord_eq_toWord, (rom_eq_unknown_iff op).mpr hop]
  rfl

end Sys2Proof.Proofs
end

section
/-! SUPPORT. The two branches of the walker step, in the terms of the operand bytes the buffer holds after the opcode: the
statements of spec/40_decoder_walker.md. -/

namespace Sys2Proof.Machine

open Sys2Proof.Rules

theorem nops_of_fits {d : Descriptor} {s : State} (hfits : fits d s = true) : nops d s = d.len.toNat - 1 := if_pos hfits

theorem nops_of_not_fits {d : Descriptor} {s : State} (hfits : fits d s = false) :
    nops d s = s.n.toNat - s.cursor.toNat - 1 := by
  simp only [nops, hfits, Bool.false_eq_true, if_false]

/-- The second branch of R100 as two updates of the state: the record, then the cursor. -/
theorem State.walked_of_fits {s : State} {d : Descriptor} (hfits : fits d s = true) :
    s.walked d = (s.emit (s.emitted d)).setCursor (s.cursor.toNat + d.len.toNat) := if_pos hfits

/-- The first branch of R100 as two updates of the state: the record, then the truncation flag. -/
theorem State.walked_of_not_fits {s : State} {d : Descriptor} (hfits : fits d s = false) :
    s.walked d = (s.emit (s.emitted d)).endTruncated := if_neg (Bool.eq_false_iff.mp hfits)

/-- The record of an enabled step holds any `nops` bytes that stand after the opcode: they agree with its lanes one by one. -/
theorem State.emitted_eq_of_operandsAt {s : State} {d : Descriptor} {ops : List Byte} (hd : s.done = false)
    (hlen : ops.length = nops d s) (hops : OperandsAt s ops) :
    s.emitted d = ⟨s.cursor, d.mnem, d.mode, d.len, ops, !fits d s⟩ := by
  have hbytes : (s.emitted d).ops = ops := by
    refine List.ext_getElem? fun k => ?_
    change (s.emitted d).lane k = ops[k]?
    rw [State.emitted_lane d hd]
    split
    · exact hops k (by omega)
    · exact (List.getElem?_eq_none (by omega)).symm
  rw [← hbytes]
  rfl

/-- A whole instruction at the cursor is walked by the second branch of R100. -/
theorem State.walked_of_wholeInstr {d : Descriptor} {s : State} {ops : List Byte} (h : WholeInstr d s ops) :
    s.done = false ∧ s.walked d = emitWhole d s ops := by
  obtain ⟨htrunc, hend, hlen, hops⟩ := h
  have hd : s.done = false := State.done_eq_false.mpr ⟨htrunc, by omega⟩
  have hfits : fits d s = true := fits_eq_true.mpr hend
  have hnops : ops.length = nops d s := by
    rw [nops_of_fits hfits]
    omega
  rw [State.walked_of_fits hfits, State.emitted_eq_of_operandsAt hd hnops hops, hfits]
  exact ⟨hd, rfl⟩

/-- An instruction cut by the end of the buffer is walked by the first branch of R100. -/
theorem State.walked_of_cutInstr {d : Descriptor} {s : State} {ops : List Byte} (h : CutInstr d s ops) :
    s.done = false ∧ s.walked d = emitCut d s ops := by
  obtain ⟨htrunc, hcursor, hend, hlen, hops⟩ := h
  have hd : s.done = false := State.done_eq_false.mpr ⟨htrunc, hcursor⟩
  have hfits : fits d s = false := fits_eq_false.mpr hend
  have hnops : ops.length = nops d s := by
    rw [nops_of_not_fits hfits]
    omega
  rw [State.walked_of_not_fits hfits, State.emitted_eq_of_operandsAt hd hnops hops, hfits]
  exact ⟨hd, rfl⟩

theorem State.descriptorAtCursor_of_bufRead {s : State} {op : Byte} (h : bufRead s s.cursor.toNat = some op) :
    s.descriptorAtCursor = rom op := by
  unfold bufRead at h
  split at h
  · injection h with h
    exact congrArg rom h
  · cases h

theorem Record.fields_of_complete {r : Record} (h : r.trunc = false) :
    r.fields = [offsetText r.off, Config.modeTagText r.mode] ++ r.ops.map byteText ++ [r.mnem.text] :=
  if_neg (Bool.eq_false_iff.mp h)

end Sys2Proof.Machine

namespace Sys2Proof.Proofs

open Sys2Proof.Machine

/-- Settles O31: whichever of R100's branches the bounds test selects, `State.walked` is that branch. -/
theorem walkerStep : Obligations.WalkerStep := by
  intro s op ops hu hop
  have hdesc := State.descriptorAtCursor_of_bufRead hop
  refine ⟨fun hwhole => ?_, fun hcut => ?_, ⟨_, step_of_not_refused (runRefusal_of_unbroken hu)⟩⟩
  · obtain ⟨hd, hwalked⟩ := State.walked_of_wholeInstr hwhole
    rw [step_of_enabled hu hd, hdesc, hwalked]
  · obtain ⟨hd, hwalked⟩ := State.walked_of_cutInstr hcut
    rw [step_of_enabled hu hd, hdesc, hwalked]

/-- Settles O45: the lanes of the emitted record, whose number the bounds test decides. -/
theorem operandLanes : Obligations.OperandLanes := by
  intro s hu hd
  refine ⟨_, s.emitted s.descriptorAtCursor, step_of_enabled hu hd, s.walked_out_eq _, ?_, fun i => ?_⟩
  · rw [State.emitted_nops, State.emitted_len]
    split
    · next hend => exact nops_of_fits (fits_eq_true.mpr hend)
    · next hend => exact nops_of_not_fits (fits_eq_false.mpr (Nat.not_le.mp hend))
  · rw [State.emitted_nops]
    exact State.emitted_lane _ hd i

/-- Settles O59: the fields of a complete record, for the operand bytes of each length. -/
theorem completeRecordRendering : Obligations.CompleteRecordRendering := by
  intro off m a b lo hi
  exact ⟨Record.fields_of_complete rfl, Record.fields_of_complete rfl, Record.fields_of_complete rfl⟩

end Sys2Proof.Proofs
end

section
/-! SUPPORT. An opcode's own rule, R200 to R351, for every well-formed instruction: the decoder gives it back, the ROM holds its
triple, and its meaning is one of the two branches of the walker step. The statements of spec/41_load_store.md. -/

namespace Sys2Proof

theorem decodeOpcode_undefined : ∀ op : Byte, undefinedOpcodes.contains op = true → decodeOpcode op = .unk op := by decide

/-- The opcode byte of a well-formed instruction selects it (R70, R82). -/
theorem decodeOpcode_opcode {i : Instr} (hwf : i.wellFormed = true) : decodeOpcode i.opcode = i := by
  cases i with
  | unk op => exact decodeOpcode_undefined op hwf
  | _ => rfl

/-- The family `Laws.Triple` as one statement: the ROM's descriptor is the triple of the instruction's rule. -/
theorem rom_opcode {i : Instr} (hwf : i.wellFormed = true) : rom i.opcode = i.triple := by
  cases i with
  | unk op => exact Laws.Triple.unk op hwf
  | _ => rfl

end Sys2Proof

namespace Sys2Proof.Machine

open Sys2Proof.Rules

theorem walkStep_of_enabled {s : State} (d : Descriptor) (hd : s.done = false) : walkStep d s = .next (s.walked d) := by
  rw [walkStep_eq, hd]
  rfl

theorem walkStep_of_wholeInstr {d : Descriptor} {s : State} {ops : List Byte} (h : WholeInstr d s ops) :
    walkStep d s = .next (emitWhole d s ops) := by
  obtain ⟨hd, hwalked⟩ := State.walked_of_wholeInstr h
  rw [walkStep_of_enabled d hd, hwalked]

theorem walkStep_of_cutInstr {d : Descriptor} {s : State} {ops : List Byte} (h : CutInstr d s ops) :
    walkStep d s = .next (emitCut d s ops) := by
  obtain ⟨hd, hwalked⟩ := State.walked_of_cutInstr h
  rw [walkStep_of_enabled d hd, hwalked]

/-- The operand bytes of the emitted record are those that stand after the opcode. -/
theorem operandsAt_emitted {s : State} (d : Descriptor) (hd : s.done = false) : OperandsAt s (s.emitted d).ops := by
  intro k hk
  have hlane : k < nops d s := (s.emitted_nops d).symm ▸ hk
  exact ((State.emitted_lane d hd k).trans (if_pos hlane)).symm

/-- Where the walker may step, the instruction at the cursor is whole or cut, and one of length 1 is whole. -/
theorem exists_wholeInstr_or_cutInstr {s : State} (d : Descriptor) (hd : s.done = false) :
    ∃ ops, WholeInstr d s ops ∨ d.len ≠ .one ∧ CutInstr d s ops := by
  obtain ⟨htrunc, hcursor⟩ := State.done_eq_false.mp hd
  have hlen : (s.emitted d).ops.length = nops d s := s.emitted_nops d
  have hpos := d.len.toNat_pos
  refine ⟨(s.emitted d).ops, ?_⟩
  cases hfits : fits d s with
  | true =>
    rw [nops_of_fits hfits] at hlen
    exact .inl ⟨htrunc, fits_eq_true.mp hfits, by omega, operandsAt_emitted d hd⟩
  | false =>
    have hend := fits_eq_false.mp hfits
    have hone : d.len ≠ .one := fun h => by
      simp only [h, Len.toNat] at hend
      omega
    rw [nops_of_not_fits hfits] at hlen
    exact .inr ⟨hone, htrunc, hcursor, hend, by omega, operandsAt_emitted d hd⟩

end Sys2Proof.Machine

namespace Sys2Proof.Rules

open Sys2Proof.Machine

/-- Every well-formed instruction keeps the rule of its opcode, with its triple and that triple's word. -/
theorem opcodeRule_of_wellFormed (i : Instr) (hwf : i.wellFormed = true) :
    OpcodeRule i.opcode i i.triple i.triple.toWord := by
  have hrom := rom_opcode hwf
  have hexec : ∀ s, exec i s = walkStep i.triple s := fun s => hrom ▸ exec_eq_walkStep i s
  refine ⟨decodeOpcode_opcode hwf, rfl, hrom, hrom ▸ romWord_eq_toWord i.opcode, rfl, fun s ops hwhole => ?_,
    fun s ops hcut => ?_, fun s htrunc hcursor => ?_, fun s => ?_⟩
  · exact (hexec s).trans (walkStep_of_wholeInstr hwhole)
  · exact (hexec s).trans (walkStep_of_cutInstr hcut)
  · exact exists_wholeInstr_or_cutInstr i.triple (State.done_eq_false.mpr ⟨htrunc, hcursor⟩)
  · exact ⟨_, (hexec s).trans (walkStep_eq i.triple s)⟩

end Sys2Proof.Rules

namespace Sys2Proof.Proofs

open Sys2Proof.Rules

/-- Settles O9: each form of LDA is well-formed, and its opcode, triple and word are R200 to R207's. -/
theorem ldaOpcodes : Obligations.LdaOpcodes :=
  ⟨opcodeRule_of_wellFormed .ldaImm rfl, opcodeRule_of_wellFormed .ldaZp rfl, opcodeRule_of_wellFormed .ldaZpx rfl,
    opcodeRule_of_wellFormed .ldaAbs rfl, opcodeRule_of_wellFormed .ldaAbx rfl, opcodeRule_of_wellFormed .ldaAby rfl,
    opcodeRule_of_wellFormed .ldaIzx rfl, opcodeRule_of_wellFormed .ldaIzy rfl⟩

/-- Settles O10: each form of LDX and LDY is well-formed, and its opcode, triple and word are R208 to R217's. -/
theorem ldxLdyOpcodes : Obligations.LdxLdyOpcodes :=
  ⟨opcodeRule_of_wellFormed .ldxImm rfl, opcodeRule_of_wellFormed .ldxZp rfl, opcodeRule_of_wellFormed .ldxZpy rfl,
    opcodeRule_of_wellFormed .ldxAbs rfl, opcodeRule_of_wellFormed .ldxAby rfl, opcodeRule_of_wellFormed .ldyImm rfl,
    opcodeRule_of_wellFormed .ldyZp rfl, opcodeRule_of_wellFormed .ldyZpx rfl, opcodeRule_of_wellFormed .ldyAbs rfl,
    opcodeRule_of_wellFormed .ldyAbx rfl⟩

/-- Settles O11: each form of STA is well-formed, and its opcode, triple and word are R218 to R224's. -/
theorem storeOpcodes : Obligations.StoreOpcodes :=
  ⟨opcodeRule_of_wellFormed .staZp rfl, opcodeRule_of_wellFormed .staZpx rfl, opcodeRule_of_wellFormed .staAbs rfl,
    opcodeRule_of_wellFormed .staAbx rfl, opcodeRule_of_wellFormed .staAby rfl, opcodeRule_of_wellFormed .staIzx rfl,
    opcodeRule_of_wellFormed .staIzy rfl⟩

/-- Settles O12: each form of STX and STY is well-formed, and its opcode, triple and word are R225 to R230's. -/
theorem stxStyOpcodes : Obligations.StxStyOpcodes :=
  ⟨opcodeRule_of_wellFormed .stxZp rfl, opcodeRule_of_wellFormed .stxZpy rfl, opcodeRule_of_wellFormed .stxAbs rfl,
    opcodeRule_of_wellFormed .styZp rfl, opcodeRule_of_wellFormed .styZpx rfl, opcodeRule_of_wellFormed .styAbs rfl⟩

end Sys2Proof.Proofs
end

section
/-! SUPPORT. The statements of spec/42_transfer_stack.md: the register transfers and the stack instructions. -/

namespace Sys2Proof.Proofs

open Sys2Proof.Rules

/-- Settles O13: each register transfer is well-formed, and its opcode, triple and word are R231 to R236's. -/
theorem transferOpcodes : Obligations.TransferOpcodes :=
  ⟨opcodeRule_of_wellFormed .taxImp rfl, opcodeRule_of_wellFormed .tayImp rfl, opcodeRule_of_wellFormed .tsxImp rfl,
    opcodeRule_of_wellFormed .txaImp rfl, opcodeRule_of_wellFormed .txsImp rfl, opcodeRule_of_wellFormed .tyaImp rfl⟩

/-- Settles O14: each stack instruction is well-formed, and its opcode, triple and word are R237 to R240's. -/
theorem stackOpcodes : Obligations.StackOpcodes :=
  ⟨opcodeRule_of_wellFormed .phaImp rfl, opcodeRule_of_wellFormed .phpImp rfl, opcodeRule_of_wellFormed .plaImp rfl,
    opcodeRule_of_wellFormed .plpImp rfl⟩

end Sys2Proof.Proofs
end

section
/-! SUPPORT. The statements of spec/43_logic_arith_compare.md: the logical, arithmetic and compare instructions. -/

namespace Sys2Proof.Proofs

open Sys2Proof.Rules

/-- Settles O15: each form of AND and BIT is well-formed, and its opcode, triple and word are R241 to R248's, R265's and R266's. -/
theorem andBitOpcodes : Obligations.AndBitOpcodes :=
  ⟨opcodeRule_of_wellFormed .andImm rfl, opcodeRule_of_wellFormed .andZp rfl, opcodeRule_of_wellFormed .andZpx rfl,
    opcodeRule_of_wellFormed .andAbs rfl, opcodeRule_of_wellFormed .andAbx rfl, opcodeRule_of_wellFormed .andAby rfl,
    opcodeRule_of_wellFormed .andIzx rfl, opcodeRule_of_wellFormed .andIzy rfl, opcodeRule_of_wellFormed .bitZp rfl,
    opcodeRule_of_wellFormed .bitAbs rfl⟩

/-- Settles O16: each form of EOR is well-formed, and its opcode, triple and word are R249 to R256's. -/
theorem eorOpcodes : Obligations.EorOpcodes :=
  ⟨opcodeRule_of_wellFormed .eorImm rfl, opcodeRule_of_wellFormed .eorZp rfl, opcodeRule_of_wellFormed .eorZpx rfl,
    opcodeRule_of_wellFormed .eorAbs rfl, opcodeRule_of_wellFormed .eorAbx rfl, opcodeRule_of_wellFormed .eorAby rfl,
    opcodeRule_of_wellFormed .eorIzx rfl, opcodeRule_of_wellFormed .eorIzy rfl⟩

/-- Settles O17: each form of ORA is well-formed, and its opcode, triple and word are R257 to R264's. -/
theorem oraOpcodes : Obligations.OraOpcodes :=
  ⟨opcodeRule_of_wellFormed .oraImm rfl, opcodeRule_of_wellFormed .oraZp rfl, opcodeRule_of_wellFormed .oraZpx rfl,
    opcodeRule_of_wellFormed .oraAbs rfl, opcodeRule_of_wellFormed .oraAbx rfl, opcodeRule_of_wellFormed .oraAby rfl,
    opcodeRule_of_wellFormed .oraIzx rfl, opcodeRule_of_wellFormed .oraIzy rfl⟩

/-- Settles O18: each form of ADC is well-formed, and its opcode, triple and word are R267 to R274's. -/
theorem adcOpcodes : Obligations.AdcOpcodes :=
  ⟨opcodeRule_of_wellFormed .adcImm rfl, opcodeRule_of_wellFormed .adcZp rfl, opcodeRule_of_wellFormed .adcZpx rfl,
    opcodeRule_of_wellFormed .adcAbs rfl, opcodeRule_of_wellFormed .adcAbx rfl, opcodeRule_of_wellFormed .adcAby rfl,
    opcodeRule_of_wellFormed .adcIzx rfl, opcodeRule_of_wellFormed .adcIzy rfl⟩

/-- Settles O19: each form of SBC is well-formed, and its opcode, triple and word are R275 to R282's. -/
theorem sbcOpcodes : Obligations.SbcOpcodes :=
  ⟨opcodeRule_of_wellFormed .sbcImm rfl, opcodeRule_of_wellFormed .sbcZp rfl, opcodeRule_of_wellFormed .sbcZpx rfl,
    opcodeRule_of_wellFormed .sbcAbs rfl, opcodeRule_of_wellFormed .sbcAbx rfl, opcodeRule_of_wellFormed .sbcAby rfl,
    opcodeRule_of_wellFormed .sbcIzx rfl, opcodeRule_of_wellFormed .sbcIzy rfl⟩

/-- Settles O20: each form of CMP is well-formed, and its opcode, triple and word are R283 to R290's. -/
theorem cmpOpcodes : Obligations.CmpOpcodes :=
  ⟨opcodeRule_of_wellFormed .cmpImm rfl, opcodeRule_of_wellFormed .cmpZp rfl, opcodeRule_of_wellFormed .cmpZpx rfl,
    opcodeRule_of_wellFormed .cmpAbs rfl, opcodeRule_of_wellFormed .cmpAbx rfl, opcodeRule_of_wellFormed .cmpAby rfl,
    opcodeRule_of_wellFormed .cmpIzx rfl, opcodeRule_of_wellFormed .cmpIzy rfl⟩

/-- Settles O21: each form of CPX and CPY is well-formed, and its opcode, triple and word are R291 to R296's. -/
theorem cpxCpyOpcodes : Obligations.CpxCpyOpcodes :=
  ⟨opcodeRule_of_wellFormed .cpxImm rfl, opcodeRule_of_wellFormed .cpxZp rfl, opcodeRule_of_wellFormed .cpxAbs rfl,
    opcodeRule_of_wellFormed .cpyImm rfl, opcodeRule_of_wellFormed .cpyZp rfl, opcodeRule_of_wellFormed .cpyAbs rfl⟩

end Sys2Proof.Proofs
end

section
/-! SUPPORT. The statements of spec/44_incdec_shift.md: the increment, decrement, shift and rotate instructions. -/

namespace Sys2Proof.Proofs

open Sys2Proof.Rules

/-- Settles O22: each form of INC, INX and INY is well-formed, and its opcode, triple and word are R297 to R302's. -/
theorem incrementOpcodes : Obligations.IncrementOpcodes :=
  ⟨opcodeRule_of_wellFormed .incZp rfl, opcodeRule_of_wellFormed .incZpx rfl, opcodeRule_of_wellFormed .incAbs rfl,
    opcodeRule_of_wellFormed .incAbx rfl, opcodeRule_of_wellFormed .inxImp rfl, opcodeRule_of_wellFormed .inyImp rfl⟩

/-- Settles O23: each form of DEC, DEX and DEY is well-formed, and its opcode, triple and word are R303 to R308's. -/
theorem decrementOpcodes : Obligations.DecrementOpcodes :=
  ⟨opcodeRule_of_wellFormed .decZp rfl, opcodeRule_of_wellFormed .decZpx rfl, opcodeRule_of_wellFormed .decAbs rfl,
    opcodeRule_of_wellFormed .decAbx rfl, opcodeRule_of_wellFormed .dexImp rfl, opcodeRule_of_wellFormed .deyImp rfl⟩

/-- Settles O24: each form of ASL and LSR is well-formed, and its opcode, triple and word are R309 to R318's. -/
theorem shiftOpcodes : Obligations.ShiftOpcodes :=
  ⟨opcodeRule_of_wellFormed .aslZp rfl, opcodeRule_of_wellFormed .aslZpx rfl, opcodeRule_of_wellFormed .aslAbs rfl,
    opcodeRule_of_wellFormed .aslAbx rfl, opcodeRule_of_wellFormed .aslAcc rfl, opcodeRule_of_wellFormed .lsrZp rfl,
    opcodeRule_of_wellFormed .lsrZpx rfl, opcodeRule_of_wellFormed .lsrAbs rfl, opcodeRule_of_wellFormed .lsrAbx rfl,
    opcodeRule_of_wellFormed .lsrAcc rfl⟩

/-- Settles O25: each form of ROL and ROR is well-formed, and its opcode, triple and word are R319 to R328's. -/
theorem rotateOpcodes : Obligations.RotateOpcodes :=
  ⟨opcodeRule_of_wellFormed .rolZp rfl, opcodeRule_of_wellFormed .rolZpx rfl, opcodeRule_of_wellFormed .rolAbs rfl,
    opcodeRule_of_wellFormed .rolAbx rfl, opcodeRule_of_wellFormed .rolAcc rfl, opcodeRule_of_wellFormed .rorZp rfl,
    opcodeRule_of_wellFormed .rorZpx rfl, opcodeRule_of_wellFormed .rorAbs rfl, opcodeRule_of_wellFormed .rorAbx rfl,
    opcodeRule_of_wellFormed .rorAcc rfl⟩

end Sys2Proof.Proofs
end

section
/-! SUPPORT. The statements of spec/45_control.md: the jumps, the subroutine and interrupt instructions, and the branches. -/

namespace Sys2Proof.Proofs

open Sys2Proof.Rules

/-- Settles O26: each instruction is well-formed, its opcode, triple and word are R329 to R334's, and `indirect` has code 13. -/
theorem jumpOpcodes : Obligations.JumpOpcodes :=
  ⟨opcodeRule_of_wellFormed .jmpAbs rfl, opcodeRule_of_wellFormed .jmpInd rfl, opcodeRule_of_wellFormed .jsrAbs rfl,
    opcodeRule_of_wellFormed .rtsImp rfl, opcodeRule_of_wellFormed .brkImp rfl, opcodeRule_of_wellFormed .rtiImp rfl, rfl⟩

/-- Settles O27: each branch is well-formed, and its opcode, triple and word are R335 to R342's. -/
theorem branchOpcodes : Obligations.BranchOpcodes :=
  ⟨opcodeRule_of_wellFormed .bccRel rfl, opcodeRule_of_wellFormed .bcsRel rfl, opcodeRule_of_wellFormed .beqRel rfl,
    opcodeRule_of_wellFormed .bmiRel rfl, opcodeRule_of_wellFormed .bneRel rfl, opcodeRule_of_wellFormed .bplRel rfl,
    opcodeRule_of_wellFormed .bvcRel rfl, opcodeRule_of_wellFormed .bvsRel rfl⟩

end Sys2Proof.Proofs
end

section
/-! SUPPORT. The statements of spec/46_flags_nop.md: the flag instructions and NOP. -/

namespace Sys2Proof.Proofs

open Sys2Proof.Rules

/-- Settles O28: each flag instruction and NOP is well-formed, and its opcode, triple and word are R343 to R350's. -/
theorem flagOpcodes : Obligations.FlagOpcodes :=
  ⟨opcodeRule_of_wellFormed .clcImp rfl, opcodeRule_of_wellFormed .cldImp rfl, opcodeRule_of_wellFormed .cliImp rfl,
    opcodeRule_of_wellFormed .clvImp rfl, opcodeRule_of_wellFormed .secImp rfl, opcodeRule_of_wellFormed .sedImp rfl,
    opcodeRule_of_wellFormed .seiImp rfl, opcodeRule_of_wellFormed .nopImp rfl⟩

end Sys2Proof.Proofs
end

section
/-! SUPPORT. The statement of spec/47_undefined.md: an instruction of length 1 at the cursor of an enabled walker is whole. -/

namespace Sys2Proof.Rules

open Sys2Proof.Machine

/-- An instruction of length 1 has no operand byte that the end of the buffer could cut off (R100). -/
theorem wholeInstr_nil_of_len_one {d : Descriptor} {s : State} (hlen : d.len = .one) (htrunc : s.trunc = false)
    (hcursor : s.cursor.toNat < s.n.toNat) : WholeInstr d s [] := by
  have hone : d.len.toNat = 1 := congrArg Len.toNat hlen
  refine ⟨htrunc, by omega, hone.symm, fun k hk => ?_⟩
  exact absurd hk (Nat.not_lt_zero k)

end Sys2Proof.Rules

namespace Sys2Proof.Proofs

open Sys2Proof.Rules

/-- Settles O29: an `unk` that holds a byte of the undefined set is well-formed, and its length of 1 leaves the second branch of
R100 alone. -/
theorem undefinedOpcodeBytes : Obligations.UndefinedOpcodeBytes := by
  refine ⟨rfl, fun u hu => ?_⟩
  have hrule : OpcodeRule u (.unk u) unknownDescriptor unknownDescriptor.toWord :=
    opcodeRule_of_wellFormed (.unk u) (List.contains_iff_mem.mpr hu)
  refine ⟨hrule, fun s htrunc hcursor => ?_⟩
  obtain ⟨-, -, -, -, -, hwhole, -⟩ := hrule
  exact hwhole s [] (wholeInstr_nil_of_len_one rfl htrunc hcursor)

end Sys2Proof.Proofs
end

section
/-! SUPPORT. Gapless sequences of records, the record the buffer holds at an offset, and the invariant of a run: a step and a start
keep it, and what it says of the records at any time and at done. -/

namespace Sys2Proof.Machine

/-! ### Gapless sequences of records -/

/-- Where a sequence with a first record ends: at that record if it is truncated and alone, and otherwise where the rest ends. -/
theorem endOfRecords_cons_eq_some {off : Nat} {r : Record} {rs : List Record} {p : Nat × Bool} :
    endOfRecords off (r :: rs) = some p ↔
      r.off.toNat = off ∧
        (r.trunc = true ∧ rs = [] ∧ (off, true) = p ∨ r.trunc = false ∧ endOfRecords (off + r.len.toNat) rs = some p) := by
  rw [endOfRecords]
  by_cases hoff : r.off.toNat = off
  · cases htrunc : r.trunc <;> by_cases hrs : rs = [] <;> simp [hoff, hrs]
  · simp [hoff]

/-- Records may follow a sequence that has not ended truncated, from where it ends. -/
theorem endOfRecords_append {off e : Nat} {rs : List Record} (h : endOfRecords off rs = some (e, false)) (rs' : List Record) :
    endOfRecords off (rs ++ rs') = endOfRecords e rs' := by
  induction rs generalizing off with
  | nil => cases h; rfl
  | cons r rs ih =>
    obtain ⟨hoff, ⟨-, -, hp⟩ | ⟨htrunc, hrest⟩⟩ := endOfRecords_cons_eq_some.mp h
    · cases hp
    · simp [endOfRecords, hoff, htrunc, ih hrest]

/-- A single record at its own offset ends there if it is truncated, and after its length if not. -/
theorem endOfRecords_singleton (r : Record) :
    endOfRecords r.off.toNat [r] = some (if r.trunc then (r.off.toNat, true) else (r.off.toNat + r.len.toNat, false)) := by
  cases htrunc : r.trunc <;> simp [endOfRecords, htrunc]

/-- The lengths of a sequence that has not ended truncated fill it (40_decoder_walker.md R105). -/
theorem endOfRecords_eq_lengthSum {off e : Nat} {rs : List Record} (h : endOfRecords off rs = some (e, false)) :
    off + lengthSum rs = e := by
  induction rs generalizing off with
  | nil => cases h; rfl
  | cons r rs ih =>
    obtain ⟨-, ⟨-, -, hp⟩ | ⟨-, hrest⟩⟩ := endOfRecords_cons_eq_some.mp h
    · cases hp
    · have := ih hrest
      simp only [lengthSum, List.map_cons, List.sum_cons] at this ⊢
      omega

/-- A sequence that has ended truncated is one that has not, and a truncated record where that one ends (R106). -/
theorem exists_truncated_of_endOfRecords {off e : Nat} {rs : List Record} (h : endOfRecords off rs = some (e, true)) :
    ∃ rs' r, rs = rs' ++ [r] ∧ endOfRecords off rs' = some (e, false) ∧ r.trunc = true ∧ r.off.toNat = e := by
  induction rs generalizing off with
  | nil => cases h
  | cons r rs ih =>
    obtain ⟨hoff, ⟨htrunc, rfl, hp⟩ | ⟨htrunc, hrest⟩⟩ := endOfRecords_cons_eq_some.mp h
    · cases hp
      exact ⟨[], r, rfl, rfl, htrunc, hoff⟩
    · obtain ⟨rs', r', rfl, hrs', hr'⟩ := ih hrest
      exact ⟨r :: rs', r', rfl, endOfRecords_cons_eq_some.mpr ⟨hoff, .inr ⟨htrunc, hrs'⟩⟩, hr'⟩

/-- The first record of a gapless sequence begins where the sequence does. -/
theorem off_of_head?_of_endOfRecords {off : Nat} {rs : List Record} {p : Nat × Bool} {r : Record}
    (h : endOfRecords off rs = some p) (hr : rs.head? = some r) : r.off.toNat = off := by
  cases rs with
  | nil => cases hr
  | cons r' rs =>
    cases hr
    exact (endOfRecords_cons_eq_some.mp h).1

/-- A record that another follows is complete, and the other begins where it ends (R103). -/
theorem off_of_next_of_endOfRecords {off : Nat} {rs : List Record} {p : Nat × Bool} (h : endOfRecords off rs = some p) (k : Nat)
    {r r' : Record} (hr : rs[k]? = some r) (hr' : rs[k + 1]? = some r') :
    r'.off.toNat = r.off.toNat + r.len.toNat ∧ r.trunc = false := by
  induction rs generalizing off k with
  | nil => cases hr
  | cons r₀ rs ih =>
    obtain ⟨hoff, ⟨-, rfl, -⟩ | ⟨htrunc, hrest⟩⟩ := endOfRecords_cons_eq_some.mp h
    · cases hr'
    · cases k with
      | zero =>
        cases hr
        rw [List.getElem?_cons_succ, ← List.head?_eq_getElem?] at hr'
        exact ⟨hoff ▸ off_of_head?_of_endOfRecords hrest hr', htrunc⟩
      | succ k => exact ih hrest k hr hr'

/-- A sequence that holds a truncated record has ended truncated, and on that record (R106). -/
theorem truncated_last_of_endOfRecords {off e : Nat} {b : Bool} {rs : List Record} {r : Record}
    (h : endOfRecords off rs = some (e, b)) (hr : r ∈ rs) (htrunc : r.trunc = true) : rs.getLast? = some r ∧ b = true := by
  induction rs generalizing off with
  | nil => cases hr
  | cons r₀ rs ih =>
    obtain ⟨-, ⟨-, rfl, hp⟩ | ⟨hcomplete, hrest⟩⟩ := endOfRecords_cons_eq_some.mp h
    · cases hp
      exact ⟨by rw [List.mem_singleton.mp hr]; rfl, rfl⟩
    · obtain rfl | hmem := List.mem_cons.mp hr
      · exact absurd htrunc (Bool.eq_false_iff.mp hcomplete)
      · obtain ⟨hlast, hb⟩ := ih hrest hmem
        exact ⟨by rw [List.getLast?_cons, hlast]; rfl, hb⟩

/-! ### The record the buffer holds at an offset -/

/-- The record at an offset depends on N and the bytes below N alone. -/
theorem recordAt_congr {s t : State} (hn : t.n = s.n) (hread : ∀ a < s.n.toNat, t.buf.read a = s.buf.read a) (off : Nat) :
    recordAt t off = recordAt s off := by
  unfold recordAt
  rw [hn]
  split
  · next hoff =>
    rw [hread off hoff]
    simp only [Option.some.injEq, Record.mk.injEq, true_and, and_true]
    refine List.map_congr_left fun i hi => hread _ ?_
    have := List.mem_range.mp hi
    omega
  · rfl

/-- What the record at an offset says: it lies in the buffer, with that offset, truncated exactly when it runs past the end, and
with the operand bytes that are there (40_decoder_walker.md R100, 10_state.md R28). -/
theorem fields_of_recordAt {s : State} {off : Nat} {r : Record} (h : recordAt s off = some r) :
    off < s.n.toNat ∧ r.off.toNat = off ∧ (r.trunc = true ↔ s.n.toNat < off + r.len.toNat) ∧
      r.nops = min (r.len.toNat - 1) (s.n.toNat - off - 1) := by
  unfold recordAt at h
  split at h
  · next hoff =>
    cases h
    refine ⟨hoff, ?_, decide_eq_true_iff, ?_⟩
    · have := s.n.isLt
      simp only [BitVec.toNat_ofNat]
      exact Nat.mod_eq_of_lt (by omega)
    · simp only [Record.nops, List.length_map, List.length_range]
  · cases h

/-- The operand bytes present are those the length asks for or those the buffer has, whichever are fewer (R100, R101). -/
theorem nops_eq_min (d : Descriptor) (s : State) : nops d s = min (d.len.toNat - 1) (s.n.toNat - s.cursor.toNat - 1) := by
  have := d.len.toNat_pos
  cases hfits : fits d s with
  | true =>
    have := fits_eq_true.mp hfits
    rw [nops_of_fits hfits]
    omega
  | false =>
    have := fits_eq_false.mp hfits
    rw [nops_of_not_fits hfits]
    omega

/-- What an enabled step emits is the record the buffer holds at the cursor (R100). -/
theorem recordAt_cursor {s : State} (hd : s.done = false) :
    recordAt s s.cursor.toNat = some (s.emitted s.descriptorAtCursor) := by
  have hfits : decide (s.n.toNat < s.cursor.toNat + s.descriptorAtCursor.len.toNat) = !fits s.descriptorAtCursor s := by
    rw [fits, ← decide_not, decide_eq_decide, Nat.not_le]
  unfold recordAt
  rw [if_pos (State.done_eq_false.mp hd).2]
  simp only [State.emitted, recordOf, laneOffsets, List.map_map, nops_eq_min, ← hfits, BitVec.ofNat_toNat, BitVec.setWidth_eq]
  rfl

/-! ### The invariant of a run -/

/-- A start over a canonical buffer meets the invariant: the cursor is 0 and there is no record (70_reset_and_hazards.md R430). -/
theorem inv_raiseStart {s : State} (hwf : s.buf.wf = true) : s.raiseStart.Inv :=
  ⟨hwf, Nat.zero_le _, rfl, fun _ hr => absurd hr List.not_mem_nil⟩

/-- The records of a step end at its cursor, truncated when it ends the run (40_decoder_walker.md R103, R106). -/
theorem endOfRecords_walked {s : State} (d : Descriptor) (h : endOfRecords 0 s.out = some (s.cursor.toNat, false))
    (htrunc : s.trunc = false) : endOfRecords 0 (s.walked d).out = some ((s.walked d).cursor.toNat, (s.walked d).trunc) := by
  have hend := endOfRecords_singleton (s.emitted d)
  rw [State.emitted_off] at hend
  rw [State.walked_out_eq, endOfRecords_append h, hend, State.emitted_trunc, State.walked_trunc]
  cases hfits : fits d s with
  | true =>
    rw [State.walked_cursor_of_fits hfits]
    simp [htrunc]
  | false =>
    rw [State.walked_cursor_of_not_fits hfits]
    simp

/-- A walker step never passes the end of the buffer (10_state.md R23). -/
theorem walked_cursor_le {s : State} (d : Descriptor) (h : s.cursor.toNat ≤ s.n.toNat) : (s.walked d).cursor.toNat ≤ s.n.toNat := by
  cases hfits : fits d s with
  | true => exact State.walked_cursor_of_fits hfits ▸ fits_eq_true.mp hfits
  | false => exact State.walked_cursor_of_not_fits hfits ▸ h

/-- Each record of a step is the buffer's own: the earlier ones by the frame, the new one because it is read there. -/
theorem recordAt_walked {s : State} (hd : s.done = false) (h : ∀ r ∈ s.out, recordAt s r.off.toNat = some r) :
    ∀ r ∈ (s.walked s.descriptorAtCursor).out, recordAt (s.walked s.descriptorAtCursor) r.off.toNat = some r := by
  intro r hr
  rw [recordAt_congr (State.walked_n s _) (fun a _ => by rw [State.walked_buf])]
  rw [State.walked_out_eq] at hr
  obtain hold | hnew := List.mem_append.mp hr
  · exact h r hold
  · rw [List.mem_singleton.mp hnew, State.emitted_off]
    exact recordAt_cursor hd

theorem step_keeps_inv {s t : State} (hi : s.Inv) (h : step s = .next t) : t.Inv := by
  obtain ⟨-, rfl⟩ | ⟨hd, rfl⟩ := step_held_or_walked h
  · exact hi
  · obtain ⟨hwf, hcursor, hend, hrecs⟩ := hi
    have htrunc := (State.done_eq_false.mp hd).1
    rw [htrunc] at hend
    exact ⟨(State.walked_buf s _).symm ▸ hwf, (State.walked_n s _).symm ▸ walked_cursor_le _ hcursor,
      endOfRecords_walked _ hend htrunc, recordAt_walked hd hrecs⟩

end Sys2Proof.Machine

namespace Sys2Proof.Proofs

open Sys2Proof.Machine

/-- Settles O50: at reset the buffer lists nothing, and there is no record. -/
theorem resetMeetsInv : Obligations.ResetMeetsInv :=
  ⟨rfl, Nat.le_refl _, rfl, fun _ hr => absurd hr List.not_mem_nil⟩

/-- Settles O51: a step that walks appends the record the buffer holds at the cursor, where the records so far end. -/
theorem stepKeepsInv : Obligations.StepKeepsInv := fun _ _ hi h => step_keeps_inv hi h

/-- Settles O57: neighbours and the truncated record by gaplessness, the operand bytes of each record by the buffer. -/
theorem offsetsGapless : Obligations.OffsetsGapless := by
  rintro s ⟨-, -, hend, hrecs⟩
  refine ⟨fun r hr => off_of_head?_of_endOfRecords hend hr, fun k r r' => off_of_next_of_endOfRecords hend k,
    fun r hr htrunc => ?_, fun r hr hcomplete => ?_⟩
  · obtain ⟨hlast, hs⟩ := truncated_last_of_endOfRecords hend hr htrunc
    obtain ⟨hoff, -, hiff, hnops⟩ := fields_of_recordAt (hrecs r hr)
    have hpast := hiff.mp htrunc
    refine ⟨hlast, hs, fun hone => ?_, by omega, by omega⟩
    simp only [hone, Len.toNat] at hpast
    omega
  · obtain ⟨-, -, hiff, hnops⟩ := fields_of_recordAt (hrecs r hr)
    have hwithin : ¬ s.n.toNat < r.off.toNat + r.len.toNat := fun hpast => by
      rw [hiff.mpr hpast] at hcomplete
      cases hcomplete
    omega

/-- Settles O58: without a truncated record the lengths fill the buffer, and with one they end at its offset. -/
theorem bytesDecodedAtDone : Obligations.BytesDecodedAtDone := by
  rintro s ⟨-, hcursor, hend, hrecs⟩ hd
  refine ⟨fun hclear => ?_, fun hset => ?_⟩
  · have hfull : s.cursor.toNat = s.n.toNat := by
      simp only [State.done, hclear, Bool.false_or, decide_eq_true_eq] at hd
      omega
    rw [hclear] at hend
    have hsum := endOfRecords_eq_lengthSum hend
    exact ⟨BitVec.eq_of_toNat_eq hfull, by omega⟩
  · rw [hset] at hend
    obtain ⟨rs, r, hout, hrs, htrunc, hoff⟩ := exists_truncated_of_endOfRecords hend
    have hsum := endOfRecords_eq_lengthSum hrs
    obtain ⟨hlt, -, hiff, hnops⟩ := fields_of_recordAt (hrecs r (by simp [hout]))
    have hpast := hiff.mp htrunc
    exact ⟨rs, r, hout, htrunc, BitVec.eq_of_toNat_eq hoff.symm, by omega, by omega⟩

end Sys2Proof.Proofs
end

section
/-! SUPPORT. What the host does between steps: its refusal mark, its load and start of a run, and the placing of an instruction. The
statements of spec/70_reset_and_hazards.md. -/

namespace Sys2Proof.Machine

/-! ### Which runs are refused -/

/-- A marked run has no step (70_reset_and_hazards.md R436). -/
theorem step_of_hostChanged {s : State} (h : s.hostChanged = true) : step s = .refused .hostChangedRun := by
  have href : s.runRefusal = some .hostChangedRun := if_pos h
  simp only [step, href]

/-- A run over more than `N_MAX` bytes has no step (R436). -/
theorem step_of_bufferTooLarge {s : State} (h : s.hostChanged = false) (hn : nMax < s.n.toNat) :
    step s = .refused .bufferTooLarge := by
  have href : s.runRefusal = some .bufferTooLarge := by simp only [State.runRefusal, h, hn, if_true, Bool.false_eq_true, if_false]
  simp only [step, href]

/-- A run under way whose `buf_len` is no longer N has no step (R436). -/
theorem step_of_bufLen_ne {s : State} (h : s.hostChanged = false) (hn : s.n.toNat ≤ nMax) (hd : s.done = false)
    (hlen : s.bufLen ≠ s.n) : step s = .refused .hostChangedRun := by
  have href : s.runRefusal = some .hostChangedRun := by simp [State.runRefusal, h, Nat.not_lt.mpr hn, hd, hlen]
  simp only [step, href]

/-- The final state holds, whatever `buf_len` is there: a change of it breaks no run that is done (60_exceptions.md R412). -/
theorem step_of_done {s : State} (h : s.hostChanged = false) (hn : s.n.toNat ≤ nMax) (hd : s.done = true) : step s = .next s := by
  have href : s.runRefusal = none := by simp [State.runRefusal, h, Nat.not_lt.mpr hn, hd]
  rw [step_of_not_refused href, if_pos hd]

/-- A step of an unbroken run answers a next state. -/
theorem exists_step_of_unbroken {s : State} (hu : s.Unbroken) : ∃ t, step s = .next t :=
  ⟨_, step_of_not_refused (runRefusal_of_unbroken hu)⟩

/-! ### The refusal mark, the load and the start -/

theorem State.hostWrite_keeps_mark {s : State} (h : s.hostChanged = true) (a : Nat) (b : Byte) :
    (s.hostWrite a b).hostChanged = true := by
  rw [State.hostWrite_hostChanged, h, Bool.true_or]

theorem State.hostSetLen_keeps_mark {s : State} (h : s.hostChanged = true) (len : Offset) :
    (s.hostSetLen len).hostChanged = true := by
  rw [State.hostSetLen_hostChanged, h, Bool.true_or]

/-- A load is a sequence of host writes, each of which keeps a set mark. -/
theorem State.hostLoad_keeps_mark {s : State} (h : s.hostChanged = true) (a : Nat) (bytes : List Byte) :
    (s.hostLoad a bytes).hostChanged = true := by
  induction bytes generalizing s a with
  | nil => exact h
  | cons b bytes ih => exact ih (State.hostWrite_keeps_mark h a b) (a + 1)

theorem State.hostLoad_buf (s : State) (a : Nat) (bytes : List Byte) : (s.hostLoad a bytes).buf = s.buf.writeAll a bytes :=
  (s.hostLoad_walker a bytes).1

/-- A start over at most `N_MAX` bytes begins an unbroken run (70_reset_and_hazards.md R430, R433). -/
theorem raiseStart_unbroken {s : State} (h : s.bufLen.toNat ≤ nMax) : s.raiseStart.Unbroken := ⟨rfl, h, rfl⟩

/-- `done` right after a start is `N == 0` (10_state.md R34). -/
theorem done_raiseStart_iff (s : State) : s.raiseStart.done = true ↔ s.raiseStart.n.toNat = 0 := by
  simp [State.done]

@[simp] theorem State.launch_buf (s : State) (bytes : List Byte) : (s.launch bytes).buf = s.buf.writeAll 0 bytes :=
  s.hostLoad_buf 0 bytes

/-- A launch over at most `N_MAX` bytes presents their number, which the 17 bits of `buf_len` count (log entry 14). -/
theorem State.launch_n {s : State} {bytes : List Byte} (h : bytes.length ≤ nMax) : (s.launch bytes).n.toNat = bytes.length := by
  change (BitVec.ofNat 17 (min bytes.length 131071)).toNat = bytes.length
  have : bytes.length ≤ 65536 := h
  rw [BitVec.toNat_ofNat]
  omega

theorem launch_unbroken (s : State) {bytes : List Byte} (h : bytes.length ≤ nMax) : (s.launch bytes).Unbroken :=
  ⟨rfl, State.launch_n h ▸ h, rfl⟩

theorem launch_inv {s : State} (hwf : s.buf.wf = true) (bytes : List Byte) : (s.launch bytes).Inv :=
  inv_raiseStart ((s.hostLoad_buf 0 bytes).symm ▸ Memory.writeAll_wf 0 bytes hwf)

/-- A launched run reads the bytes the host loaded, and nothing at or above their number (20_memory.md R50, R52). -/
theorem bufRead_launch {s : State} {bytes : List Byte} (hwf : s.buf.wf = true) (h : bytes.length ≤ nMax) (a : Nat) :
    bufRead (s.launch bytes) a = bytes[a]? := by
  rw [bufRead, State.launch_n h]
  split
  · next ha =>
    rw [State.launch_buf, Memory.read_writeAll 0 bytes hwf, dif_pos ⟨Nat.zero_le a, ha⟩]
    exact (List.getElem?_eq_getElem ha).symm
  · next ha => exact (List.getElem?_eq_none (Nat.not_lt.mp ha)).symm

end Sys2Proof.Machine

namespace Sys2Proof.Proofs

open Sys2Proof.Machine

/-- Settles O33: `done` by its formula, and the final state is held unless the run is refused. -/
theorem doneHoldsState : Obligations.DoneHoldsState := by
  refine fun s => ⟨?_, step_of_done⟩
  rw [State.done, Bool.or_eq_true, decide_eq_true_iff]

/-- Settles O34: the three refusals, and the unbroken run a start begins. -/
theorem brokenRunHasNoStep : Obligations.BrokenRunHasNoStep := fun _ =>
  ⟨step_of_hostChanged, step_of_bufferTooLarge, step_of_bufLen_ne, rfl, rfl,
    fun h => exists_step_of_unbroken (raiseStart_unbroken h)⟩

/-- Settles O35: a change sets the mark, a set mark stays, and what changes nothing of a run under way leaves the mark alone. -/
theorem hostChangeBreaksRun : Obligations.HostChangeBreaksRun := by
  intro s a b bytes len
  refine ⟨fun hd ha hb => ?_, fun hd hlen => ?_, fun h => ?_, fun h => ?_, fun h => ?_⟩
  · have hmark : (s.hostWrite a b).hostChanged = true := by simp [hd, ha, hb]
    exact ⟨hmark, step_of_hostChanged hmark⟩
  · have hmark : (s.hostSetLen len).hostChanged = true := by simp [hd, hlen]
    exact ⟨hmark, step_of_hostChanged hmark⟩
  · exact ⟨State.hostWrite_keeps_mark h a b, State.hostLoad_keeps_mark h a bytes, State.hostSetLen_keeps_mark h len⟩
  · obtain hd | ha | hb := h
    · simp [hd]
    · simp [Nat.not_lt.mpr ha]
    · simp [hb]
  · obtain hd | hlen := h
    · simp [hd]
    · simp [hlen]

/-- Settles O36: the fields of the reset and of a start, and `done` with the cursor at 0. -/
theorem startResetsWalker : Obligations.StartResetsWalker :=
  ⟨⟨rfl, rfl, rfl, rfl, by decide⟩, fun s => ⟨rfl, rfl, rfl, rfl, rfl, rfl, done_raiseStart_iff s⟩⟩

/-- Settles O37: the run a launch begins, and its reads. -/
theorem launchLoadsBuffer : Obligations.LaunchLoadsBuffer := fun s bytes hwf hlen =>
  ⟨launch_unbroken s hlen, launch_inv hwf bytes, State.launch_n hlen, rfl, bufRead_launch hwf hlen⟩

/-- Settles O52: writes keep the canonical form, the length is no part of the buffer, and a start meets the invariant. -/
theorem hostKeepsCanonicalBuffer : Obligations.HostKeepsCanonicalBuffer := fun s hwf =>
  ⟨fun a b => Memory.write_wf a b hwf, fun a bytes => (s.hostLoad_buf a bytes).symm ▸ Memory.writeAll_wf a bytes hwf,
    fun _ => hwf, inv_raiseStart hwf⟩

end Sys2Proof.Proofs
end

section
/-! SUPPORT. Runs: as many steps as the buffer has bytes end an unbroken run, its records are then the document's loop over the
buffer, and that loop over instructions laid out one after another is their listing. The statements of
spec/40_decoder_walker.md section 2. -/

namespace Sys2Proof.Machine

/-! ### Every run ends -/

/-- Steps beyond the end of a run hold the final state (60_exceptions.md R412). -/
theorem run_of_done {s : State} (hu : s.Unbroken) (hd : s.done = true) (k : Nat) : Host.Core.run core k s = .next s := by
  obtain ⟨hmark, hn, -⟩ := hu
  induction k with
  | zero => rfl
  | succ k ih => exact (run_of_step k (step_of_done hmark hn hd)).trans ih

theorem step_keeps_unbroken {s t : State} (hu : s.Unbroken) (h : step s = .next t) : t.Unbroken := by
  obtain ⟨-, hn, hlen, hmark⟩ := step_keeps_host_fields h
  rwa [State.Unbroken, hmark, hn, hlen]

/-- An enabled step moves the cursor forward or ends the run (10_state.md R22, 40_decoder_walker.md R104). -/
theorem walked_done_or_advances (s : State) (d : Descriptor) :
    (s.walked d).done = true ∨ s.cursor.toNat + 1 ≤ (s.walked d).cursor.toNat := by
  cases hfits : fits d s with
  | true =>
    have := d.len.toNat_pos
    rw [State.walked_cursor_of_fits hfits]
    exact .inr (by omega)
  | false =>
    rw [State.walked_of_not_fits hfits]
    exact .inl (State.done_of_trunc rfl)

/-- Every number of steps of an unbroken run answers a state of the same run, which is done or has moved the cursor by as many. -/
theorem exists_run {s : State} (hu : s.Unbroken) (hi : s.Inv) (k : Nat) :
    ∃ t : State, Host.Core.run core k s = .next t ∧ t.Inv ∧ t.buf = s.buf ∧ t.n = s.n ∧
      (t.done = true ∨ s.cursor.toNat + k ≤ t.cursor.toNat) := by
  induction k generalizing s with
  | zero => exact ⟨s, rfl, hi, rfl, rfl, .inr (Nat.le_refl _)⟩
  | succ k ih =>
    cases hd : s.done with
    | true => exact ⟨s, run_of_done hu hd (k + 1), hi, rfl, rfl, .inl hd⟩
    | false =>
      have hstep := step_of_enabled hu hd
      have hi' := step_keeps_inv hi hstep
      have hu' := step_keeps_unbroken hu hstep
      obtain ⟨hbuf, hn, -, -⟩ := step_keeps_host_fields hstep
      rw [run_of_step k hstep]
      obtain hend | hadvance := walked_done_or_advances s s.descriptorAtCursor
      · exact ⟨_, run_of_done hu' hend k, hi', hbuf, hn, .inl hend⟩
      · obtain ⟨t, hrun, hit, hbuft, hnt, hprogress⟩ := ih hu' hi'
        exact ⟨t, hrun, hit, hbuft.trans hbuf, hnt.trans hn, hprogress.imp_right fun h => by omega⟩

/-! ### The records of a done run -/

/-- Gapless records of the buffer that reach its end, or a truncated record, are the document's loop over it. -/
theorem recordsFrom_eq {s : State} {off e : Nat} {b : Bool} {rs : List Record} (hend : endOfRecords off rs = some (e, b))
    (hrecs : ∀ r ∈ rs, recordAt s r.off.toNat = some r) (hdone : b = true ∨ s.n.toNat ≤ e) (fuel : Nat)
    (hfuel : s.n.toNat ≤ off + fuel) : recordsFrom s fuel off = rs := by
  induction rs generalizing off fuel with
  | nil =>
    cases hend
    have hpast := hdone.resolve_left Bool.false_ne_true
    cases fuel with
    | zero => rfl
    | succ fuel =>
      have hnone : recordAt s e = none := if_neg (Nat.not_lt.mpr hpast)
      rw [recordsFrom, hnone]
  | cons r rs ih =>
    obtain ⟨hoff, hrest⟩ := endOfRecords_cons_eq_some.mp hend
    have hr : recordAt s off = some r := hoff ▸ hrecs r List.mem_cons_self
    obtain ⟨hlt, -⟩ := fields_of_recordAt hr
    have hlen := r.len.toNat_pos
    obtain ⟨fuel, rfl⟩ : ∃ f, fuel = f + 1 := ⟨fuel - 1, by omega⟩
    rw [recordsFrom, hr]
    obtain ⟨htrunc, rfl, -⟩ | ⟨hcomplete, hrest⟩ := hrest
    · exact if_pos htrunc
    · have htail := ih hrest (fun r' hr' => hrecs r' (List.mem_cons_of_mem r hr')) fuel (by omega)
      simp only [hcomplete, Bool.false_eq_true, if_false, htail]

/-- A done run that meets the invariant has emitted the document's loop over its buffer (40_decoder_walker.md R102). -/
theorem out_eq_recordsOfRun {s : State} (hi : s.Inv) (hd : s.done = true) : s.out = recordsOfRun s := by
  obtain ⟨-, -, hend, hrecs⟩ := hi
  have hdone : s.trunc = true ∨ s.n.toNat ≤ s.cursor.toNat := by
    simpa only [State.done, Bool.or_eq_true, decide_eq_true_iff] using hd
  exact (recordsFrom_eq hend hrecs hdone s.n.toNat (Nat.le_add_left _ _)).symm

/-- The document's loop depends on N and the bytes below N alone. -/
theorem recordsOfRun_congr {s t : State} (hn : t.n = s.n) (hread : ∀ a < s.n.toNat, t.buf.read a = s.buf.read a) :
    recordsOfRun t = recordsOfRun s := by
  have hfrom : ∀ fuel off, recordsFrom t fuel off = recordsFrom s fuel off := by
    intro fuel
    induction fuel with
    | zero => exact fun _ => rfl
    | succ fuel ih =>
      intro off
      simp only [recordsFrom, recordAt_congr hn hread, ih]
  rw [recordsOfRun, hn]
  exact hfrom _ _

/-- As many steps as the buffer has bytes end an unbroken run, with the document's loop over the buffer (R102, R104). -/
theorem exists_run_to_done {s : State} (hu : s.Unbroken) (hi : s.Inv) :
    ∃ t : State, Host.Core.run core s.n.toNat s = .next t ∧ t.done = true ∧ t.Inv ∧ t.out = recordsOfRun s ∧
      t.buf = s.buf ∧ t.n = s.n := by
  obtain ⟨t, hrun, hit, hbuf, hn, hprogress⟩ := exists_run hu hi s.n.toNat
  have hd : t.done = true := hprogress.elim id fun hadvance => by
    rw [State.done, hn, Bool.or_eq_true, decide_eq_true_iff]
    exact .inr (by omega)
  have hloop : recordsOfRun t = recordsOfRun s := recordsOfRun_congr hn fun a _ => congrArg (Memory.read · a) hbuf
  exact ⟨t, hrun, hd, hit, (out_eq_recordsOfRun hit hd).trans hloop, hbuf, hn⟩

/-- A launch over at most `N_MAX` bytes ends after as many steps, with the document's loop over those bytes. -/
theorem exists_run_of_launch {s : State} {bytes : List Byte} (hwf : s.buf.wf = true) (hlen : bytes.length ≤ nMax) :
    ∃ t : State, Host.Core.run core bytes.length (s.launch bytes) = .next t ∧ t.done = true ∧ t.Inv ∧
      t.out = recordsOfRun (s.launch bytes) := by
  obtain ⟨t, hrun, hd, hi, hout, -, -⟩ := exists_run_to_done (launch_unbroken s hlen) (launch_inv hwf bytes)
  rw [State.launch_n hlen] at hrun
  exact ⟨t, hrun, hd, hi, hout⟩

theorem length_le_lengthSum (rs : List Record) : rs.length ≤ lengthSum rs := by
  induction rs with
  | nil => exact Nat.le_refl 0
  | cons r rs ih =>
    have := r.len.toNat_pos
    simp only [lengthSum, List.map_cons, List.sum_cons, List.length_cons] at ih ⊢
    omega

/-- A run has at most N records, since each is at least one byte long and a truncated one has its opcode byte (R104). -/
theorem length_out_le {s : State} (hi : s.Inv) : s.out.length ≤ s.n.toNat := by
  obtain ⟨-, hcursor, hend, hrecs⟩ := hi
  cases htrunc : s.trunc with
  | false =>
    rw [htrunc] at hend
    have hsum := endOfRecords_eq_lengthSum hend
    have hlen := length_le_lengthSum s.out
    omega
  | true =>
    rw [htrunc] at hend
    obtain ⟨rs, r, hout, hrs, -, hoff⟩ := exists_truncated_of_endOfRecords hend
    obtain ⟨hlt, -⟩ := fields_of_recordAt (hrecs r (by simp [hout]))
    have hsum := endOfRecords_eq_lengthSum hrs
    have hlen := length_le_lengthSum rs
    rw [hout, List.length_append, List.length_singleton]
    omega

/-! ### Instructions laid out one after another -/

/-- The record of an instruction that stands in the buffer with its operand bytes: `listing_cons` ties it to the listing. -/
def encodedRecord (off : Nat) (i : Instr) (ops : List Byte) : Record where
  off := BitVec.ofNat 17 off
  mnem := (rom i.opcode).mnem
  mode := (rom i.opcode).mode
  len := (rom i.opcode).len
  ops := ops
  trunc := false

theorem listing_cons (off : Nat) (i : Instr) (ops : List Byte) (l : List (Instr × List Byte)) :
    listing off ((i, ops) :: l) = encodedRecord off i ops :: listing (off + (rom i.opcode).len.toNat) l := rfl

theorem length_encodeWith (i : Instr) (ops : List Byte) : (encodeWith i ops).length = ops.length + 1 := rfl

theorem bufRead_eq_some {s : State} {a : Nat} {b : Byte} : bufRead s a = some b ↔ a < s.n.toNat ∧ s.buf.read a = b := by
  rw [bufRead, Option.ite_none_right_eq_some, Option.some.injEq]

/-- Where an instruction stands in the buffer with its operand bytes, the buffer holds its record (R100). -/
theorem recordAt_of_encodeWith {s : State} {off : Nat} {i : Instr} {ops rest : List Byte}
    (hbytes : ∀ k, bufRead s (off + k) = (encodeWith i ops ++ rest)[k]?) (hops : ops.length + 1 = (rom i.opcode).len.toNat) :
    recordAt s off = some (encodedRecord off i ops) := by
  obtain ⟨hlt, hopcode⟩ := bufRead_eq_some.mp (hbytes 0)
  rw [Nat.add_zero] at hlt hopcode
  have hlane : ∀ k (hk : k < ops.length), off + 1 + k < s.n.toNat ∧ s.buf.read (off + 1 + k) = ops[k] := fun k hk => by
    refine bufRead_eq_some.mp ?_
    rw [Nat.add_assoc, Nat.add_comm 1 k, hbytes]
    simp [encodeWith, encode, List.getElem?_append_left hk]
  have hend : off + ops.length < s.n.toNat := by
    cases hlen : ops.length with
    | zero => exact hlt
    | succ k =>
      have := (hlane k (by omega)).1
      omega
  have hmin : min ((rom i.opcode).len.toNat - 1) (s.n.toNat - off - 1) = ops.length := by omega
  have hoperands : ((List.range ops.length).map fun k => s.buf.read (off + 1 + k)) = ops :=
    List.ext_getElem (by simp) fun k _ hk => by simpa using (hlane k hk).2
  have hwhole : decide (s.n.toNat < off + (rom i.opcode).len.toNat) = false := decide_eq_false (by omega)
  rw [recordAt, if_pos hlt, hopcode]
  simp only [encodedRecord, hmin, hoperands, hwhole]

/-- The listing of some instructions is gapless and complete, from its offset to the end of their bytes. -/
theorem endOfRecords_listing {l : List (Instr × List Byte)} {off : Nat}
    (hops : ∀ p ∈ l, p.2.length + 1 = (rom p.1.opcode).len.toNat) (hend : off + (bytesOf l).length < 2 ^ 17) :
    endOfRecords off (listing off l) = some (off + (bytesOf l).length, false) := by
  induction l generalizing off with
  | nil => rfl
  | cons p l ih =>
    obtain ⟨i, ops⟩ := p
    obtain ⟨hlen, hl⟩ := List.forall_mem_cons.mp hops
    rw [bytesOf, List.length_append, length_encodeWith, hlen, ← Nat.add_assoc] at hend ⊢
    have hoff : (BitVec.ofNat 17 off).toNat = off := Nat.mod_eq_of_lt (by omega)
    rw [listing_cons]
    exact endOfRecords_cons_eq_some.mpr ⟨hoff, .inr ⟨rfl, ih hl hend⟩⟩

/-- Over a buffer that holds the instructions' bytes, every record of their listing is the buffer's own. -/
theorem recordAt_of_mem_listing {s : State} {l : List (Instr × List Byte)} {off : Nat}
    (hops : ∀ p ∈ l, p.2.length + 1 = (rom p.1.opcode).len.toNat) (hbytes : ∀ k, bufRead s (off + k) = (bytesOf l)[k]?) :
    ∀ r ∈ listing off l, recordAt s r.off.toNat = some r := by
  induction l generalizing off with
  | nil => exact fun _ hr => absurd hr List.not_mem_nil
  | cons p l ih =>
    obtain ⟨i, ops⟩ := p
    obtain ⟨hlen, hl⟩ := List.forall_mem_cons.mp hops
    have hfirst := recordAt_of_encodeWith hbytes hlen
    have hrest : ∀ k, bufRead s (off + (rom i.opcode).len.toNat + k) = (bytesOf l)[k]? := fun k => by
      rw [Nat.add_assoc, hbytes, bytesOf, ← hlen, ← length_encodeWith i ops, List.getElem?_append_right (Nat.le_add_right _ _),
        Nat.add_sub_cancel_left]
    intro r hr
    obtain rfl | hr := List.mem_cons.mp hr
    · obtain ⟨-, hoff, -⟩ := fields_of_recordAt hfirst
      exact hoff.symm ▸ hfirst
    · exact ih hl hrest r hr

/-- The document's loop over the bytes of some instructions is their listing. -/
theorem recordsOfRun_eq_listing {s : State} {l : List (Instr × List Byte)}
    (hops : ∀ p ∈ l, p.2.length + 1 = (rom p.1.opcode).len.toNat) (hn : s.n.toNat = (bytesOf l).length)
    (hbytes : ∀ a, bufRead s a = (bytesOf l)[a]?) :
    recordsOfRun s = listing 0 l ∧ endOfRecords 0 (listing 0 l) = some ((bytesOf l).length, false) := by
  have hend := endOfRecords_listing (off := 0) hops (by
    have := s.n.isLt
    omega)
  rw [Nat.zero_add] at hend
  have hrecs := recordAt_of_mem_listing (off := 0) hops fun k => by rw [Nat.zero_add, hbytes]
  exact ⟨recordsFrom_eq hend hrecs (.inr (Nat.le_of_eq hn)) _ (Nat.le_add_left _ _), hend⟩

end Sys2Proof.Machine

namespace Sys2Proof.Proofs

open Sys2Proof.Machine

/-- Settles O38: a start with `buf_len` 0 is done at once, and a done run is held. -/
theorem emptyBufferEmitsNothing : Obligations.EmptyBufferEmitsNothing := by
  intro s k hlen
  have hu : s.raiseStart.Unbroken := raiseStart_unbroken (by simp [hlen])
  have hd : s.raiseStart.done = true := (done_raiseStart_iff s).mpr (by simp [hlen])
  exact ⟨hd, run_of_done hu hd k, rfl⟩

/-- Settles O53: the run ends, and its gapless records, each the buffer's own, are the document's loop. -/
theorem runEmitsBufferRecords : Obligations.RunEmitsBufferRecords := by
  intro s hu hi
  obtain ⟨t, hrun, hd, -, hout, hbuf, hn⟩ := exists_run_to_done hu hi
  exact ⟨t, hrun, hd, hout, hbuf, hn⟩

/-- Settles O54: the run ends, and the invariant bounds the number of its records and their offsets. -/
theorem runTerminates : Obligations.RunTerminates := by
  intro s hu hi
  obtain ⟨t, hrun, hd, hit, -, -, hn⟩ := exists_run_to_done hu hi
  refine ⟨t, hrun, hd, hn ▸ length_out_le hit, fun r hr => ?_⟩
  obtain ⟨-, -, -, hrecs⟩ := hit
  exact hn ▸ (fields_of_recordAt (hrecs r hr)).1

/-- Settles O55: the launched run emits the document's loop, which is the listing, and its end is where the listing ends. -/
theorem encodedListingIsDecodedBack : Obligations.EncodedListingIsDecodedBack := by
  intro s l hwf hl hlen
  obtain ⟨t, hrun, hd, ⟨-, -, hend, -⟩, hout⟩ := exists_run_of_launch hwf hlen
  obtain ⟨hlisting, hlistingEnd⟩ := recordsOfRun_eq_listing (fun p hp => (hl p hp).2) (State.launch_n hlen)
    (bufRead_launch hwf hlen)
  rw [hlisting] at hout
  rw [hout, hlistingEnd, Option.some.injEq, Prod.mk.injEq] at hend
  obtain ⟨hcursor, htrunc⟩ := hend
  exact ⟨t, hrun, hd, htrunc.symm, hcursor.symm, hout⟩

/-- Settles O56: both runs emit the document's loop over the bytes, and the records fix cursor and `trunc`. -/
theorem sameBufferSameRecords : Obligations.SameBufferSameRecords := by
  intro s₁ s₂ bytes hwf₁ hwf₂ hlen
  obtain ⟨t₁, hrun₁, hd₁, ⟨-, -, hend₁, -⟩, hout₁⟩ := exists_run_of_launch hwf₁ hlen
  obtain ⟨t₂, hrun₂, hd₂, ⟨-, -, hend₂, -⟩, hout₂⟩ := exists_run_of_launch hwf₂ hlen
  have hreads : ∀ a < (s₂.launch bytes).n.toNat, (s₁.launch bytes).buf.read a = (s₂.launch bytes).buf.read a := fun a ha => by
    have h₁ := (bufRead_launch hwf₁ hlen a).trans (bufRead_launch hwf₂ hlen a).symm
    rw [bufRead_of_lt ha] at h₁
    exact (bufRead_eq_some.mp h₁).2
  have hloop : recordsOfRun (s₁.launch bytes) = recordsOfRun (s₂.launch bytes) := recordsOfRun_congr rfl hreads
  have hout : t₁.out = t₂.out := hout₁.trans (hloop.trans hout₂.symm)
  rw [hout, hend₂, Option.some.injEq, Prod.mk.injEq] at hend₁
  obtain ⟨hcursor, htrunc⟩ := hend₁
  exact ⟨t₁, t₂, hrun₁, hrun₂, hd₁, hd₂, hout, BitVec.eq_of_toNat_eq hcursor.symm, htrunc.symm⟩

end Sys2Proof.Proofs
end

section
/-! SUPPORT. Decoding and encoding, the field codes and the counts of the ROM map: the statements of spec/30_encoding.md. -/

namespace Sys2Proof

theorem decode_encodeWith {i : Instr} (hwf : i.wellFormed = true) (ops : List Byte) : decode (encodeWith i ops) = .ok (i, ops) := by
  change Except.ok (decodeOpcode i.opcode, ops) = .ok (i, ops)
  rw [decodeOpcode_opcode hwf]

/-- The decoder selects only terms that stand for an opcode byte (R82, R351). -/
theorem wellFormed_decodeOpcode : ∀ op : Byte, (decodeOpcode op).wellFormed = true := by decide

/-- The mnemonic `UNK` stands in the unknown descriptor alone (R80). -/
theorem rom_eq_unknown_of_mnem : ∀ op : Byte, (rom op).mnem = .unk → rom op = unknownDescriptor := by decide

theorem mnem_eq_unk_iff (op : Byte) : (rom op).mnem = .unk ↔ op ∈ undefinedOpcodes := by
  rw [← rom_eq_unknown_iff]
  exact ⟨rom_eq_unknown_of_mnem op, fun h => h ▸ rfl⟩

end Sys2Proof

namespace Sys2Proof.Proofs

/-- Settles O1: the decoder reads the opcode byte alone, which selects the instruction. -/
theorem decodeOfEncodedInstruction : Obligations.DecodeOfEncodedInstruction := fun _ ops hwf => decode_encodeWith hwf ops

/-- Settles O2: the selected instruction is well-formed, and its opcode is the byte. -/
theorem encodeOfDecodedByte : Obligations.EncodeOfDecodedByte := fun op => ⟨wellFormed_decodeOpcode op, opcode_decodeOpcode op⟩

/-- Settles O3: each word's lowest byte selects its instruction. -/
theorem wordsDecodeRight : Obligations.WordsDecodeRight := ⟨rfl, rfl, rfl, rfl, rfl, rfl, rfl, rfl⟩

/-- Settles O6: the codes in their order, and the codes above the last one. -/
theorem fieldCodes : Obligations.FieldCodes := ⟨rfl, rfl, rfl, by decide, by decide, rfl⟩

/-- Settles O7: the descriptors of the 256 bytes, counted. -/
theorem romCounts : Obligations.RomCounts := ⟨rfl, rfl, rfl⟩

end Sys2Proof.Proofs
end

section
/-! SUPPORT. What a step answers and what it leaves unchanged, the reads it makes, and the outcome class of its record: the
statements of spec/40_decoder_walker.md section 1, spec/20_memory.md and spec/60_exceptions.md. -/

namespace Sys2Proof.Machine

/-- An instruction executed answers the state it began in, in the final state, and otherwise the walker's (R100). -/
theorem exec_held_or_walked (i : Instr) (s : State) :
    exec i s = .next s ∨ exec i s = .next (s.walked (rom i.opcode)) := by
  rw [exec_eq_walkStep]
  cases hd : s.done with
  | true => exact .inl (if_pos hd)
  | false => exact .inr (walkStep_of_enabled _ hd)

/-- A step of an unbroken run executes the instruction its opcode byte selects (40_decoder_walker.md R100). -/
theorem step_eq_exec {s : State} {op : Byte} (hu : s.Unbroken) (htrunc : s.trunc = false)
    (hop : bufRead s s.cursor.toNat = some op) : step s = exec (decodeOpcode op) s := by
  have hd : s.done = false := State.done_eq_false.mpr ⟨htrunc, (bufRead_eq_some.mp hop).1⟩
  rw [step_of_enabled hu hd, State.descriptorAtCursor_of_bufRead hop, exec_eq_walkStep, opcode_decodeOpcode,
    walkStep_of_enabled _ hd]

/-- A walker step truncates or moves the cursor, never both (R22, R24). -/
theorem walked_keeps_cursor_or_trunc (s : State) (d : Descriptor) :
    (s.walked d).cursor = s.cursor ∨ (s.walked d).trunc = s.trunc := by
  cases hfits : fits d s with
  | true => exact .inr (by rw [State.walked_trunc, if_pos hfits])
  | false => exact .inl (State.walked_cursor_of_not_fits hfits)

/-! ### The reads of a step -/

/-- An enabled step reads the opcode byte, then the operand bytes (20_memory.md R53). -/
theorem bufAddrs_of_enabled {s : State} (hd : s.done = false) :
    bufAddrs s = s.cursor.toNat :: laneOffsets s.cursor.toNat (nops s.descriptorAtCursor s) := by
  have hop : romAddr s = some (s.buf.read s.cursor.toNat) := by
    rw [romAddr, hd]
    exact bufRead_of_lt (State.done_eq_false.mp hd).2
  rw [bufAddrs, hop]
  rfl

/-- The opcode's offset and the operand lanes are consecutive offsets. -/
theorem cons_laneOffsets (off k : Nat) : off :: laneOffsets off k = (List.range (k + 1)).map (off + ·) := by
  rw [laneOffsets, List.range_succ_eq_map, List.map_cons, List.map_map]
  refine congrArg (off :: ·) (List.map_congr_left fun i _ => ?_)
  rw [Function.comp_apply, Nat.add_right_comm]
  rfl

theorem bufAddrs_of_done {s : State} (hd : s.done = true) : bufAddrs s = [] := by
  rw [bufAddrs, romAddr, if_pos hd]

/-- The walker step over another buffer with the same operand bytes is the same step. -/
theorem walked_with_buf {s : State} {d : Descriptor} {m : Memory}
    (hread : ∀ a ∈ laneOffsets s.cursor.toNat (nops d s), m.read a = s.buf.read a) :
    ({ s with buf := m } : State).walked d = { s.walked d with buf := m } := by
  have hrec : ({ s with buf := m } : State).emitted d = s.emitted d :=
    congrArg (recordOf d · s) (List.map_congr_left hread)
  cases hfits : fits d s with
  | true =>
    rw [State.walked_of_fits (show fits d { s with buf := m } = true from hfits), State.walked_of_fits hfits, hrec]
    rfl
  | false =>
    rw [State.walked_of_not_fits (show fits d { s with buf := m } = false from hfits), State.walked_of_not_fits hfits, hrec]
    rfl

/-! ### The outcome class of a record -/

theorem Record.outcome_code_le (r : Record) : r.outcome.code ≤ 2 := by
  cases r.outcome <;> decide

theorem Record.outcome_code_eq_two_iff (r : Record) : r.outcome.code = 2 ↔ r.trunc = true := by
  unfold Record.outcome
  by_cases htrunc : r.trunc = true
  · simp [htrunc, OutcomeClass.code]
  · by_cases hunk : r.mnem = .unk <;> simp [htrunc, hunk, OutcomeClass.code]

theorem Record.outcome_code_eq_one_iff (r : Record) : r.outcome.code = 1 ↔ r.trunc = false ∧ r.mnem = .unk := by
  unfold Record.outcome
  by_cases htrunc : r.trunc = true
  · simp [htrunc, OutcomeClass.code]
  · by_cases hunk : r.mnem = .unk <;> simp [htrunc, hunk, OutcomeClass.code]

/-- An undefined byte within the buffer is a whole instruction, of length 1 (60_exceptions.md R402). -/
theorem fits_undefined {s : State} {op : Byte} (hcursor : s.cursor.toNat < s.n.toNat) (hop : op ∈ undefinedOpcodes) :
    fits (rom op) s = true := by
  rw [(rom_eq_unknown_iff op).mpr hop]
  exact fits_eq_true.mpr hcursor

/-! ### An instruction placed at the cursor -/

theorem Memory.read_writeAll_head {m : Memory} (hwf : m.wf = true) (a : Nat) (b : Byte) (bs : List Byte) :
    (m.writeAll a (b :: bs)).read a = b := by
  simp [Memory.read_writeAll a _ hwf]

theorem tableBytes_eq_cons (nbits w : Nat) : ∃ op b₁ b₂, tableBytes nbits w = [op, b₁, b₂] := ⟨_, _, _, rfl⟩

/-- The bytes of a table word are the opcode byte of the instruction it decodes to and the operand bytes it asks for (R70). -/
theorem exists_instrBytes (nbits w : Nat) :
    ∃ op ops, instrBytes nbits w = op :: ops ∧ (instrBytes nbits w).length = (rom op).len.toNat ∧
      decodeTableWord nbits w = some (decodeOpcode op) := by
  obtain ⟨op, b₁, b₂, hbytes⟩ := tableBytes_eq_cons nbits w
  have hdecode : decodeTableWord nbits w = some (decodeOpcode op) := by
    rw [decodeTableWord, hbytes]
    rfl
  have htake : instrBytes nbits w = [op, b₁, b₂].take (rom op).len.toNat := by simp only [instrBytes, hbytes]
  have hpos := (rom op).len.toNat_pos
  have hle := (rom op).len.toNat_le
  obtain ⟨k, hk⟩ : ∃ k, (rom op).len.toNat = k + 1 := ⟨(rom op).len.toNat - 1, by omega⟩
  refine ⟨op, [b₁, b₂].take k, ?_, ?_, hdecode⟩
  · rw [htake, hk, List.take_succ_cons]
  · rw [htake, List.length_take, List.length_cons, List.length_cons, List.length_singleton]
    omega

/-- A placing moves the cursor at most, makes N and `buf_len` at least the end of the bytes, and begins an unbroken run (log
entry 5). -/
theorem exists_placeInstr (s : State) {bytes : List Byte} (hlen : bytes.length ≤ 3) :
    ∃ off n : Offset, off.toNat + bytes.length ≤ n.toNat ∧ n.toNat ≤ nMax ∧ s.placeInstr bytes =
      { s with cursor := off, trunc := false, n := n, buf := s.buf.writeAll off.toNat bytes, bufLen := n, hostChanged := false } := by
  have hmax : nMax = 65536 := rfl
  obtain ⟨at0, hat0, hfit⟩ : ∃ a, (if s.cursor.toNat + bytes.length ≤ nMax then s.cursor.toNat else 0) = a ∧
      a + bytes.length ≤ nMax := ⟨_, rfl, by split <;> omega⟩
  have hoff : (BitVec.ofNat 17 at0).toNat = at0 := Nat.mod_eq_of_lt (by omega)
  have hn : (BitVec.ofNat 17 (min nMax (max s.n.toNat (at0 + bytes.length)))).toNat =
      min nMax (max s.n.toNat (at0 + bytes.length)) := Nat.mod_eq_of_lt (by omega)
  refine ⟨BitVec.ofNat 17 at0, BitVec.ofNat 17 (min nMax (max s.n.toNat (at0 + bytes.length))), ?_, ?_, ?_⟩
  · rw [hoff, hn]
    omega
  · rw [hn]
    omega
  · simp only [State.placeInstr, hat0, hoff]

end Sys2Proof.Machine

namespace Sys2Proof.Proofs

open Sys2Proof.Machine Sys2Proof.Rules

/-- Settles O30: the decoder selects the instruction by its opcode byte, and the step executes it. -/
theorem stepRunsDecodedInstruction : Obligations.StepRunsDecodedInstruction := by
  intro s op rest i hu htrunc hop hdecode
  cases hdecode
  exact step_eq_exec hu htrunc hop

/-- Settles O32: an unbroken run is not refused, and the walker step always answers a next state. -/
theorem walkerNeverFails : Obligations.WalkerNeverFails :=
  ⟨fun _ hu => exists_step_of_unbroken hu, fun i s => ⟨_, (exec_eq_walkStep i s).trans (walkStep_eq _ s)⟩⟩

/-- Settles O39: the placed bytes are the decoded instruction's, whole and in an unbroken run. -/
theorem placedInstructionRuns : Obligations.PlacedInstructionRuns := by
  intro s nbits w hwf
  obtain ⟨op, ops, hbytes, hlen, hdecode⟩ := exists_instrBytes nbits w
  obtain ⟨off, n, hend, hmax, hplaced⟩ := exists_placeInstr s (hlen ▸ (rom op).len.toNat_le)
  have hwith : s.withFetchWord nbits w = _ := hplaced
  generalize s.withFetchWord nbits w = p at hwith ⊢
  have hu : p.Unbroken := by
    rw [hwith]
    exact ⟨rfl, hmax, rfl⟩
  have htrunc : p.trunc = false := by rw [hwith]
  have hfits : fits (rom op) p = true := by
    rw [fits_eq_true, hwith, ← hlen]
    exact hend
  have hop : bufRead p p.cursor.toNat = some op := by
    have hpos := (rom op).len.toNat_pos
    have hread := Memory.read_writeAll_head hwf off.toNat op ops
    rw [← hbytes] at hread
    rw [bufRead_eq_some, hwith]
    exact ⟨Nat.lt_of_lt_of_le (Nat.lt_add_of_pos_right (hlen ▸ hpos)) hend, hread⟩
  have hd : p.done = false := State.done_eq_false.mpr ⟨htrunc, (bufRead_eq_some.mp hop).1⟩
  refine ⟨decodeOpcode op, p.walked (rom op), p.emitted (rom op), hdecode, step_eq_exec hu htrunc hop, ?_, ?_, ?_, ?_⟩
  · rw [step_of_enabled hu hd, State.descriptorAtCursor_of_bufRead hop]
  · rw [State.walked_out_eq, hwith]
  · rw [State.emitted_trunc, hfits]
    rfl
  · rw [State.emitted_mnem, opcode_decodeOpcode]

/-- Settles O40: an execution holds the state, or walks, which writes nothing of the host's. -/
theorem execFrame : Obligations.ExecFrame := by
  intro i s t h
  obtain hheld | hwalked := exec_held_or_walked i s
  · cases h.symm.trans hheld
    exact ⟨rfl, rfl, rfl, rfl, fun _ => rfl, .inl rfl⟩
  · cases h.symm.trans hwalked
    exact ⟨s.walked_buf _, s.walked_n _, s.walked_bufLen _, s.walked_hostChanged _,
      fun a => congrArg (Memory.read · a) (s.walked_buf _),
      .inr ⟨_, s.walked_out_eq _, walked_keeps_cursor_or_trunc s _⟩⟩

/-- Settles O46: the two bytes after the opcode make the instruction whole, in buffer order. -/
theorem lowByteFirst : Obligations.LowByteFirst := by
  intro s op lo hi hu htrunc hop hlen hlo hhi
  have hthree : (rom op).len.toNat = 3 := congrArg Len.toNat hlen
  have hend := (bufRead_eq_some.mp hhi).1
  have hops : OperandsAt s [lo, hi] := fun k hk => by
    obtain rfl | rfl : k = 0 ∨ k = 1 := by
      simp only [List.length_cons, List.length_nil] at hk
      omega
    · exact hlo
    · exact hhi
  have hwhole : WholeInstr (rom op) s [lo, hi] := ⟨htrunc, by omega, hthree.symm, hops⟩
  obtain ⟨hstep, -, -⟩ := walkerStep s op [lo, hi] hu hop
  exact ⟨emitWhole (rom op) s [lo, hi], _, hstep hwhole, rfl, rfl, rfl⟩

/-- Settles O47: the reads are consecutive from the cursor, one more than the operand bytes present. -/
theorem readsStayInBuffer : Obligations.ReadsStayInBuffer := by
  intro s
  cases hd : s.done with
  | true =>
    rw [bufAddrs_of_done hd]
    exact ⟨fun _ ha => absurd ha List.not_mem_nil, Nat.zero_le 3, rfl, fun h => by cases h⟩
  | false =>
    obtain ⟨-, hcursor⟩ := State.done_eq_false.mp hd
    have hpos := s.descriptorAtCursor.len.toNat_pos
    have hle := s.descriptorAtCursor.len.toNat_le
    have hnops := nops_eq_min s.descriptorAtCursor s
    rw [bufAddrs_of_enabled hd, cons_laneOffsets, List.length_map, List.length_range]
    refine ⟨fun a ha => ?_, by omega, rfl, fun _ => ?_⟩
    · obtain ⟨k, hk, rfl⟩ := List.mem_map.mp ha
      have := List.mem_range.mp hk
      omega
    · change _ = min s.descriptorAtCursor.len.toNat _
      omega

/-- Settles O48: the step reads the opcode byte, which fixes the descriptor, and the operand bytes, which the record holds. -/
theorem bytesNotReadDoNotMatter : Obligations.BytesNotReadDoNotMatter := by
  intro s t m hread h
  have href : ({ s with buf := m } : State).runRefusal = none := not_refused_of_step (s := s) h
  rw [step_of_not_refused href, opcode_decodeOpcode]
  obtain ⟨hd, rfl⟩ | ⟨hd, rfl⟩ := step_held_or_walked h
  · exact congrArg _ (if_pos hd)
  · rw [bufAddrs_of_enabled hd, List.forall_mem_cons] at hread
    obtain ⟨hopcode, hoperands⟩ := hread
    have hnext := walked_with_buf hoperands
    rw [State.descriptorAtCursor, ← hopcode] at hnext ⊢
    exact congrArg _ ((if_neg (Bool.eq_false_iff.mp hd)).trans hnext)

/-- Settles O49: the record is truncated by the bounds test, which an undefined byte never fails, and named by the opcode byte. -/
theorem outcomeClasses : Obligations.OutcomeClasses := by
  intro s op hu htrunc hop
  have hcursor := (bufRead_eq_some.mp hop).1
  have hstep := step_of_enabled hu (State.done_eq_false.mpr ⟨htrunc, hcursor⟩)
  rw [State.descriptorAtCursor_of_bufRead hop] at hstep
  have hport : recPort (s.walked (rom op)) = some (s.emitted (rom op)) := by
    rw [recPort, State.walked_out_eq, List.getLast?_concat]
  refine ⟨_, s.emitted (rom op), hstep, s.walked_out_eq _, ?_, ?_, Record.outcome_code_le _, hport, ?_, fun hundef => ?_⟩
  · rw [Record.outcome_code_eq_two_iff, State.emitted_trunc_iff]
  · rw [Record.outcome_code_eq_one_iff, State.emitted_mnem, mnem_eq_unk_iff, State.emitted_trunc, Bool.not_eq_false']
    exact and_iff_right_of_imp (fits_undefined hcursor)
  · rw [recValid, hport]
    rfl
  · have hfits := fits_undefined hcursor hundef
    refine ⟨by rw [State.emitted_trunc, hfits]; rfl, ?_⟩
    rw [State.walked_cursor_of_fits hfits, (rom_eq_unknown_iff op).mpr hundef]
    rfl

end Sys2Proof.Proofs
end

section
/-! SUPPORT. Hexadecimal rendering: the statement of spec/40_decoder_walker.md section 3. -/

namespace Sys2Proof.Machine

/-- A number below `16 ^ w` takes `w` digits, zero-padded (R113). -/
theorem hexText_of_lt {w n : Nat} (hw : 0 < w) (h : n < 16 ^ w) : hexText w n = String.ofList (hexDigits w n) := by
  have hlog : Nat.log2 n / 4 + 1 ≤ w := by
    have hpow : (16 : Nat) ^ w = 2 ^ (4 * w) := by rw [Nat.pow_mul]
    obtain rfl | hn := Nat.eq_zero_or_pos n
    · exact hw
    · have := (Nat.log2_lt (Nat.pos_iff_ne_zero.mp hn)).mpr (hpow ▸ h)
      omega
  rw [hexText, Nat.max_eq_left hlog]

end Sys2Proof.Machine

namespace Sys2Proof.Proofs

open Sys2Proof.Machine

/-- Settles O60: the digits of a number below `16 ^ 4` and `16 ^ 2`, one by one. -/
theorem hexRendering : Obligations.HexRendering := by
  refine ⟨fun off hoff => ?_, fun b => ?_, by decide⟩
  · rw [offsetText, offsetHexDigits, hexText_of_lt (by decide) hoff]
    have htop : off.toNat / 16 / 16 / 16 % 16 = off.toNat / 4096 := by omega
    have hthird : off.toNat / 16 / 16 % 16 = off.toNat / 256 % 16 := by omega
    simp only [hexDigits, htop, hthird, List.nil_append, List.cons_append]
  · rw [byteText, hexText_of_lt (by decide) b.isLt]
    have htop : b.toNat / 16 % 16 = b.toNat / 16 := by omega
    simp only [hexDigits, htop, List.nil_append, List.cons_append]

end Sys2Proof.Proofs
end
